-- ==== Sys2Proof/Word.lean ====
section
/-! DEFINITION. The word types of the machine: bytes and 16-bit words (spec/00_scope.md R9, R11). -/

namespace Sys2Proof

/-- A byte, bit 0 least significant (R11); registers A, X, Y, SP, P and memory cells hold one (R9). -/
abbrev Byte := BitVec 8

/-- A 16-bit word: the program counter and every address inside the address space (R9). -/
abbrev Word := BitVec 16

end Sys2Proof
end

