-- ==== Sys2Proof/Config.lean ====
section
/-! DEFINITION. The parameters the spec says "the model takes" (spec/00_scope.md R10, decisions D3, D5, D8, D11, D16).
They are the arguments of the model, carried as plain data so that every choice is covered by one step function; nothing in
the machine writes them (spec/10_state.md R51, spec/70_reset_and_hazards.md R442). INIT_AXY is no field: it is an argument of
every reset (Machine/State.lean, Machine/HostOps.lean). -/

namespace Sys2Proof

/-- ADDR_OVERFLOW (R10, D5): what a 16-bit address sum outside 0 to 65535 does. -/
inductive AddrOverflow where
  | fault   -- raises OutOfRange, the spec's default
  | wrap16  -- wraps modulo 65536
deriving DecidableEq, Repr

/-- UNLISTED_FAMILIES (R10, D3): what a step does with one of the 35 unlisted bytes. -/
inductive UnlistedFamilies where
  | refuse    -- the step is refused, the spec's default
  | standard  -- the step executes the rule of spec/46_unlisted.md
deriving DecidableEq, Repr

/-- BRK_SIZE (R10, D8): the encoded size of BRK, 1 (the default) or 2. -/
inductive BrkSize where
  | one
  | two
deriving DecidableEq, Repr

/-- The number of bytes a BRK takes. -/
def BrkSize.bytes : BrkSize → Nat
  | .one => 1
  | .two => 2

/-- The parameters of R10. `cycles` holds the rows in which CYCLES differs from the table of spec/opcode_table.json
(R452, R453): a byte listed here costs what its first row says, every other byte what the table says. -/
structure Params where
  addrOverflow : AddrOverflow
  unlisted     : UnlistedFamilies
  brkSize      : BrkSize
  cycles       : List (Byte × Nat)
deriving DecidableEq, Repr

/-- The defaults of R10. -/
def Params.specDefault : Params where
  addrOverflow := .fault
  unlisted     := .refuse
  brkSize      := .one
  cycles       := []

/-- The parameters of `State.reset`: the defaults of R10, but for UNLISTED_FAMILIES.
DESIGN CHOICE (log 1, unsafe): `standard`, the value under which the spec gives the 35 unlisted instructions an effect. -/
def Params.executing : Params :=
  { Params.specDefault with unlisted := .standard }

end Sys2Proof
end

