-- ==== Sys2Proof/Syntax.lean ====
section
/-! DEFINITION. The instructions: one constructor for each of the 151 rows of spec/opcode_table.json, that is, for each OpCode
"{mnemonic, addressing-mode-variant} pair" (spec/00_scope.md R18, spec/30_encoding.md R94, R98), with its operand as data.
An operand byte is kept as a byte and an absolute operand as the word its two bytes compose (R92). -/

namespace Sys2Proof

/-- The addressing modes (R18); the accumulator forms of the shifts have mode IMPLIED (C4, R161). -/
inductive Mode where
  | implied
  | immediate
  | zeroPage
  | zeroPageX
  | zeroPageY
  | absolute
  | absoluteX
  | absoluteY
  | indirect
  | indirectX
  | indirectY
  | relative
deriving DecidableEq, Repr

/-- The encoded size in bytes of an instruction of the mode, its opcode byte included (R90, R91). BRK may take one byte more
(BRK_SIZE): see `Instr.size`. -/
def Mode.size : Mode → Nat
  | .implied => 1
  | .immediate | .zeroPage | .zeroPageX | .zeroPageY | .indirectX | .indirectY | .relative => 2
  | .absolute | .absoluteX | .absoluteY | .indirect => 3

/-- The 56 mnemonics (R98). -/
inductive Mnemonic where
  | lda | ldx | ldy
  | sta | stx | sty
  | adc | sbc
  | cmp | cpx | cpy
  | and | eor | ora
  | bit
  | jmp
  | bcc | bcs | beq | bmi | bne | bpl | bvc | bvs
  | tax | tay | txa | tya | txs | tsx
  | pha | php | pla | plp
  | clc | sec | cli | sei | cld | sed | clv
  | brk | nop
  | asl | lsr | rol | ror
  | inc | dec
  | inx | iny | dex | dey
  | jsr | rts | rti
deriving DecidableEq, Repr

/-- The part of the catalog a mnemonic belongs to (R19, R96). -/
inductive Catalog where
  | core      -- described by the source
  | unlisted  -- spec/46_unlisted.md, governed by UNLISTED_FAMILIES
deriving DecidableEq, Repr

/-- An OpCode: "a symbolic tag uniquely identifying one {mnemonic, addressing-mode-variant} pair" (R18). -/
structure OpCode where
  mnemonic : Mnemonic
  mode     : Mode
deriving DecidableEq, Repr

/-- The instructions, one constructor per row of spec/opcode_table.json. -/
inductive Instr where
  -- Loads (spec/42_load_store.md R180 to R183)
  | ldaImm (imm : Byte)
  | ldaZp (zp : Byte)
  | ldaZpX (zp : Byte)
  | ldaAbs (addr : Word)
  | ldaAbsX (addr : Word)
  | ldaAbsY (addr : Word)
  | ldaIndX (zp : Byte)
  | ldaIndY (zp : Byte)
  | ldxImm (imm : Byte)
  | ldxZp (zp : Byte)
  | ldxZpY (zp : Byte)
  | ldxAbs (addr : Word)
  | ldxAbsY (addr : Word)
  | ldyImm (imm : Byte)
  | ldyZp (zp : Byte)
  | ldyZpX (zp : Byte)
  | ldyAbs (addr : Word)
  | ldyAbsX (addr : Word)
  -- Stores (spec/42_load_store.md R184 to R187)
  | staZp (zp : Byte)
  | staZpX (zp : Byte)
  | staAbs (addr : Word)
  | staAbsX (addr : Word)
  | staAbsY (addr : Word)
  | staIndX (zp : Byte)
  | staIndY (zp : Byte)
  | stxZp (zp : Byte)
  | stxZpY (zp : Byte)
  | stxAbs (addr : Word)
  | styZp (zp : Byte)
  | styZpX (zp : Byte)
  | styAbs (addr : Word)
  -- Add and subtract (spec/43_alu.md R210, R212)
  | adcImm (imm : Byte)
  | adcZp (zp : Byte)
  | adcZpX (zp : Byte)
  | adcAbs (addr : Word)
  | adcAbsX (addr : Word)
  | adcAbsY (addr : Word)
  | adcIndX (zp : Byte)
  | adcIndY (zp : Byte)
  | sbcImm (imm : Byte)
  | sbcZp (zp : Byte)
  | sbcZpX (zp : Byte)
  | sbcAbs (addr : Word)
  | sbcAbsX (addr : Word)
  | sbcAbsY (addr : Word)
  | sbcIndX (zp : Byte)
  | sbcIndY (zp : Byte)
  -- Compares (spec/43_alu.md R214 to R217)
  | cmpImm (imm : Byte)
  | cmpZp (zp : Byte)
  | cmpZpX (zp : Byte)
  | cmpAbs (addr : Word)
  | cmpAbsX (addr : Word)
  | cmpAbsY (addr : Word)
  | cmpIndX (zp : Byte)
  | cmpIndY (zp : Byte)
  | cpxImm (imm : Byte)
  | cpxZp (zp : Byte)
  | cpxAbs (addr : Word)
  | cpyImm (imm : Byte)
  | cpyZp (zp : Byte)
  | cpyAbs (addr : Word)
  -- Bitwise operations (spec/43_alu.md R219 to R222)
  | andImm (imm : Byte)
  | andZp (zp : Byte)
  | andZpX (zp : Byte)
  | andAbs (addr : Word)
  | andAbsX (addr : Word)
  | andAbsY (addr : Word)
  | andIndX (zp : Byte)
  | andIndY (zp : Byte)
  | eorImm (imm : Byte)
  | eorZp (zp : Byte)
  | eorZpX (zp : Byte)
  | eorAbs (addr : Word)
  | eorAbsX (addr : Word)
  | eorAbsY (addr : Word)
  | eorIndX (zp : Byte)
  | eorIndY (zp : Byte)
  | oraImm (imm : Byte)
  | oraZp (zp : Byte)
  | oraZpX (zp : Byte)
  | oraAbs (addr : Word)
  | oraAbsX (addr : Word)
  | oraAbsY (addr : Word)
  | oraIndX (zp : Byte)
  | oraIndY (zp : Byte)
  -- BIT test (spec/43_alu.md R225)
  | bitZp (zp : Byte)
  | bitAbs (addr : Word)
  -- Jump (spec/44_control.md R260)
  | jmpAbs (target : Word)
  | jmpInd (ptr : Word)
  -- Branches (spec/44_control.md R261 to R270)
  | bcc (rel : Byte)
  | bcs (rel : Byte)
  | beq (rel : Byte)
  | bmi (rel : Byte)
  | bne (rel : Byte)
  | bpl (rel : Byte)
  | bvc (rel : Byte)
  | bvs (rel : Byte)
  -- Transfers (spec/45_transfer_stack_flags.md R280 to R286)
  | tax
  | tay
  | txa
  | tya
  | txs
  | tsx
  -- Stack (spec/45_transfer_stack_flags.md R290 to R294)
  | pha
  | php
  | pla
  | plp
  -- Flag set and clear (spec/45_transfer_stack_flags.md R295 to R302)
  | clc
  | sec
  | cli
  | sei
  | cld
  | sed
  | clv
  -- Break and no-op (spec/45_transfer_stack_flags.md R305, R308)
  | brk
  | nop
  -- Shifts and rotates (spec/46_unlisted.md R321 to R325)
  | aslAcc
  | aslZp (zp : Byte)
  | aslZpX (zp : Byte)
  | aslAbs (addr : Word)
  | aslAbsX (addr : Word)
  | lsrAcc
  | lsrZp (zp : Byte)
  | lsrZpX (zp : Byte)
  | lsrAbs (addr : Word)
  | lsrAbsX (addr : Word)
  | rolAcc
  | rolZp (zp : Byte)
  | rolZpX (zp : Byte)
  | rolAbs (addr : Word)
  | rolAbsX (addr : Word)
  | rorAcc
  | rorZp (zp : Byte)
  | rorZpX (zp : Byte)
  | rorAbs (addr : Word)
  | rorAbsX (addr : Word)
  -- Memory increment and decrement (spec/46_unlisted.md R326, R327)
  | incZp (zp : Byte)
  | incZpX (zp : Byte)
  | incAbs (addr : Word)
  | incAbsX (addr : Word)
  | decZp (zp : Byte)
  | decZpX (zp : Byte)
  | decAbs (addr : Word)
  | decAbsX (addr : Word)
  -- Register increment and decrement (spec/46_unlisted.md R329 to R332)
  | inx
  | iny
  | dex
  | dey
  -- Subroutines and return from interrupt (spec/46_unlisted.md R334 to R336)
  | jsr (target : Word)
  | rts
  | rti
deriving DecidableEq, Repr

/-- The OpCode of an instruction (R94, R98). -/
def Instr.opCode : Instr → OpCode
  | .ldaImm _ => ⟨.lda, .immediate⟩
  | .ldaZp _ => ⟨.lda, .zeroPage⟩
  | .ldaZpX _ => ⟨.lda, .zeroPageX⟩
  | .ldaAbs _ => ⟨.lda, .absolute⟩
  | .ldaAbsX _ => ⟨.lda, .absoluteX⟩
  | .ldaAbsY _ => ⟨.lda, .absoluteY⟩
  | .ldaIndX _ => ⟨.lda, .indirectX⟩
  | .ldaIndY _ => ⟨.lda, .indirectY⟩
  | .ldxImm _ => ⟨.ldx, .immediate⟩
  | .ldxZp _ => ⟨.ldx, .zeroPage⟩
  | .ldxZpY _ => ⟨.ldx, .zeroPageY⟩
  | .ldxAbs _ => ⟨.ldx, .absolute⟩
  | .ldxAbsY _ => ⟨.ldx, .absoluteY⟩
  | .ldyImm _ => ⟨.ldy, .immediate⟩
  | .ldyZp _ => ⟨.ldy, .zeroPage⟩
  | .ldyZpX _ => ⟨.ldy, .zeroPageX⟩
  | .ldyAbs _ => ⟨.ldy, .absolute⟩
  | .ldyAbsX _ => ⟨.ldy, .absoluteX⟩
  | .staZp _ => ⟨.sta, .zeroPage⟩
  | .staZpX _ => ⟨.sta, .zeroPageX⟩
  | .staAbs _ => ⟨.sta, .absolute⟩
  | .staAbsX _ => ⟨.sta, .absoluteX⟩
  | .staAbsY _ => ⟨.sta, .absoluteY⟩
  | .staIndX _ => ⟨.sta, .indirectX⟩
  | .staIndY _ => ⟨.sta, .indirectY⟩
  | .stxZp _ => ⟨.stx, .zeroPage⟩
  | .stxZpY _ => ⟨.stx, .zeroPageY⟩
  | .stxAbs _ => ⟨.stx, .absolute⟩
  | .styZp _ => ⟨.sty, .zeroPage⟩
  | .styZpX _ => ⟨.sty, .zeroPageX⟩
  | .styAbs _ => ⟨.sty, .absolute⟩
  | .adcImm _ => ⟨.adc, .immediate⟩
  | .adcZp _ => ⟨.adc, .zeroPage⟩
  | .adcZpX _ => ⟨.adc, .zeroPageX⟩
  | .adcAbs _ => ⟨.adc, .absolute⟩
  | .adcAbsX _ => ⟨.adc, .absoluteX⟩
  | .adcAbsY _ => ⟨.adc, .absoluteY⟩
  | .adcIndX _ => ⟨.adc, .indirectX⟩
  | .adcIndY _ => ⟨.adc, .indirectY⟩
  | .sbcImm _ => ⟨.sbc, .immediate⟩
  | .sbcZp _ => ⟨.sbc, .zeroPage⟩
  | .sbcZpX _ => ⟨.sbc, .zeroPageX⟩
  | .sbcAbs _ => ⟨.sbc, .absolute⟩
  | .sbcAbsX _ => ⟨.sbc, .absoluteX⟩
  | .sbcAbsY _ => ⟨.sbc, .absoluteY⟩
  | .sbcIndX _ => ⟨.sbc, .indirectX⟩
  | .sbcIndY _ => ⟨.sbc, .indirectY⟩
  | .cmpImm _ => ⟨.cmp, .immediate⟩
  | .cmpZp _ => ⟨.cmp, .zeroPage⟩
  | .cmpZpX _ => ⟨.cmp, .zeroPageX⟩
  | .cmpAbs _ => ⟨.cmp, .absolute⟩
  | .cmpAbsX _ => ⟨.cmp, .absoluteX⟩
  | .cmpAbsY _ => ⟨.cmp, .absoluteY⟩
  | .cmpIndX _ => ⟨.cmp, .indirectX⟩
  | .cmpIndY _ => ⟨.cmp, .indirectY⟩
  | .cpxImm _ => ⟨.cpx, .immediate⟩
  | .cpxZp _ => ⟨.cpx, .zeroPage⟩
  | .cpxAbs _ => ⟨.cpx, .absolute⟩
  | .cpyImm _ => ⟨.cpy, .immediate⟩
  | .cpyZp _ => ⟨.cpy, .zeroPage⟩
  | .cpyAbs _ => ⟨.cpy, .absolute⟩
  | .andImm _ => ⟨.and, .immediate⟩
  | .andZp _ => ⟨.and, .zeroPage⟩
  | .andZpX _ => ⟨.and, .zeroPageX⟩
  | .andAbs _ => ⟨.and, .absolute⟩
  | .andAbsX _ => ⟨.and, .absoluteX⟩
  | .andAbsY _ => ⟨.and, .absoluteY⟩
  | .andIndX _ => ⟨.and, .indirectX⟩
  | .andIndY _ => ⟨.and, .indirectY⟩
  | .eorImm _ => ⟨.eor, .immediate⟩
  | .eorZp _ => ⟨.eor, .zeroPage⟩
  | .eorZpX _ => ⟨.eor, .zeroPageX⟩
  | .eorAbs _ => ⟨.eor, .absolute⟩
  | .eorAbsX _ => ⟨.eor, .absoluteX⟩
  | .eorAbsY _ => ⟨.eor, .absoluteY⟩
  | .eorIndX _ => ⟨.eor, .indirectX⟩
  | .eorIndY _ => ⟨.eor, .indirectY⟩
  | .oraImm _ => ⟨.ora, .immediate⟩
  | .oraZp _ => ⟨.ora, .zeroPage⟩
  | .oraZpX _ => ⟨.ora, .zeroPageX⟩
  | .oraAbs _ => ⟨.ora, .absolute⟩
  | .oraAbsX _ => ⟨.ora, .absoluteX⟩
  | .oraAbsY _ => ⟨.ora, .absoluteY⟩
  | .oraIndX _ => ⟨.ora, .indirectX⟩
  | .oraIndY _ => ⟨.ora, .indirectY⟩
  | .bitZp _ => ⟨.bit, .zeroPage⟩
  | .bitAbs _ => ⟨.bit, .absolute⟩
  | .jmpAbs _ => ⟨.jmp, .absolute⟩
  | .jmpInd _ => ⟨.jmp, .indirect⟩
  | .bcc _ => ⟨.bcc, .relative⟩
  | .bcs _ => ⟨.bcs, .relative⟩
  | .beq _ => ⟨.beq, .relative⟩
  | .bmi _ => ⟨.bmi, .relative⟩
  | .bne _ => ⟨.bne, .relative⟩
  | .bpl _ => ⟨.bpl, .relative⟩
  | .bvc _ => ⟨.bvc, .relative⟩
  | .bvs _ => ⟨.bvs, .relative⟩
  | .tax => ⟨.tax, .implied⟩
  | .tay => ⟨.tay, .implied⟩
  | .txa => ⟨.txa, .implied⟩
  | .tya => ⟨.tya, .implied⟩
  | .txs => ⟨.txs, .implied⟩
  | .tsx => ⟨.tsx, .implied⟩
  | .pha => ⟨.pha, .implied⟩
  | .php => ⟨.php, .implied⟩
  | .pla => ⟨.pla, .implied⟩
  | .plp => ⟨.plp, .implied⟩
  | .clc => ⟨.clc, .implied⟩
  | .sec => ⟨.sec, .implied⟩
  | .cli => ⟨.cli, .implied⟩
  | .sei => ⟨.sei, .implied⟩
  | .cld => ⟨.cld, .implied⟩
  | .sed => ⟨.sed, .implied⟩
  | .clv => ⟨.clv, .implied⟩
  | .brk => ⟨.brk, .implied⟩
  | .nop => ⟨.nop, .implied⟩
  | .aslAcc => ⟨.asl, .implied⟩
  | .aslZp _ => ⟨.asl, .zeroPage⟩
  | .aslZpX _ => ⟨.asl, .zeroPageX⟩
  | .aslAbs _ => ⟨.asl, .absolute⟩
  | .aslAbsX _ => ⟨.asl, .absoluteX⟩
  | .lsrAcc => ⟨.lsr, .implied⟩
  | .lsrZp _ => ⟨.lsr, .zeroPage⟩
  | .lsrZpX _ => ⟨.lsr, .zeroPageX⟩
  | .lsrAbs _ => ⟨.lsr, .absolute⟩
  | .lsrAbsX _ => ⟨.lsr, .absoluteX⟩
  | .rolAcc => ⟨.rol, .implied⟩
  | .rolZp _ => ⟨.rol, .zeroPage⟩
  | .rolZpX _ => ⟨.rol, .zeroPageX⟩
  | .rolAbs _ => ⟨.rol, .absolute⟩
  | .rolAbsX _ => ⟨.rol, .absoluteX⟩
  | .rorAcc => ⟨.ror, .implied⟩
  | .rorZp _ => ⟨.ror, .zeroPage⟩
  | .rorZpX _ => ⟨.ror, .zeroPageX⟩
  | .rorAbs _ => ⟨.ror, .absolute⟩
  | .rorAbsX _ => ⟨.ror, .absoluteX⟩
  | .incZp _ => ⟨.inc, .zeroPage⟩
  | .incZpX _ => ⟨.inc, .zeroPageX⟩
  | .incAbs _ => ⟨.inc, .absolute⟩
  | .incAbsX _ => ⟨.inc, .absoluteX⟩
  | .decZp _ => ⟨.dec, .zeroPage⟩
  | .decZpX _ => ⟨.dec, .zeroPageX⟩
  | .decAbs _ => ⟨.dec, .absolute⟩
  | .decAbsX _ => ⟨.dec, .absoluteX⟩
  | .inx => ⟨.inx, .implied⟩
  | .iny => ⟨.iny, .implied⟩
  | .dex => ⟨.dex, .implied⟩
  | .dey => ⟨.dey, .implied⟩
  | .jsr _ => ⟨.jsr, .absolute⟩
  | .rts => ⟨.rts, .implied⟩
  | .rti => ⟨.rti, .implied⟩

/-- The mnemonic of an instruction. -/
def Instr.mnemonic (i : Instr) : Mnemonic := i.opCode.mnemonic

/-- The addressing mode of an instruction. -/
def Instr.mode (i : Instr) : Mode := i.opCode.mode

end Sys2Proof
end

