-- ==== Sys2Proof/WellFormed.lean ====
section
/-! DEFINITION. The checks the spec asks of data given to the model. "All core operations take strongly typed Byte/Word/enum
arguments" (spec/60_exceptions.md R407), so an operand of an `Instr` is in range by its type; what is left to check is the
catalog's build-time rule (an OpCode has only the modes its rule names: spec/41_addressing.md R162, spec/30_encoding.md R98,
R103), the parameters (spec/00_scope.md R10) and the image a host loads (spec/20_memory.md R71). -/

namespace Sys2Proof

/-- The modes each mnemonic has: the "Operands" line of its rule (spec/42_load_store.md to spec/46_unlisted.md, R98). -/
def Mnemonic.modes : Mnemonic → List Mode
  | .lda | .adc | .sbc | .cmp | .and | .eor | .ora =>
    [.immediate, .zeroPage, .zeroPageX, .absolute, .absoluteX, .absoluteY, .indirectX, .indirectY]
  | .ldx =>
    [.immediate, .zeroPage, .zeroPageY, .absolute, .absoluteY]
  | .ldy =>
    [.immediate, .zeroPage, .zeroPageX, .absolute, .absoluteX]
  | .sta =>
    [.zeroPage, .zeroPageX, .absolute, .absoluteX, .absoluteY, .indirectX, .indirectY]
  | .stx =>
    [.zeroPage, .zeroPageY, .absolute]
  | .sty =>
    [.zeroPage, .zeroPageX, .absolute]
  | .cpx | .cpy =>
    [.immediate, .zeroPage, .absolute]
  | .bit =>
    [.zeroPage, .absolute]
  | .jmp =>
    [.absolute, .indirect]
  | .bcc | .bcs | .beq | .bmi | .bne | .bpl | .bvc | .bvs =>
    [.relative]
  | .tax | .tay | .txa | .tya | .txs | .tsx | .pha | .php | .pla | .plp | .clc | .sec | .cli | .sei | .cld | .sed | .clv | .brk | .nop | .inx | .iny | .dex | .dey | .rts | .rti =>
    [.implied]
  | .asl | .lsr | .rol | .ror =>
    [.implied, .zeroPage, .zeroPageX, .absolute, .absoluteX]
  | .inc | .dec =>
    [.zeroPage, .zeroPageX, .absolute, .absoluteX]
  | .jsr =>
    [.absolute]

/-- The pair is an OpCode of the catalog (R94, R98). -/
def OpCode.wf (op : OpCode) : Bool := op.mnemonic.modes.contains op.mode

/-- An instruction is well formed when its OpCode is one of the catalog (R103, R162). -/
def Instr.wf (i : Instr) : Bool := i.opCode.wf

/-- CYCLES is "a table from opcode byte to a positive integer" (R10, R453). -/
def Params.wf (p : Params) : Bool := p.cycles.all fun row => 0 < row.2

/-- An image the host may load: "the host must give n <= 65536" (R71). -/
def imageWf (bytes : List Byte) : Bool := bytes.length ≤ 65536

end Sys2Proof
end

