-- ==== Sys2Proof/Decode.lean ====
section
/-! DEFINITION. The decoder, total on any bytes (spec/30_encoding.md R90 to R101), and after it the encoder, both written from
the byte table of R98 and spec/opcode_table.json. The byte values are the spec's, marked there as general knowledge
(PRESUMED, log 14, unsafe). -/

namespace Sys2Proof

/-- `lo ++ hi`, the little-endian word `hi * 256 + lo` (R12, R64, R92). -/
def wordOf (lo hi : Byte) : Word := BitVec.ofNat 16 (hi.toNat * 256 + lo.toNat)

/-- Bits 7 to 0 of a word (R11). -/
def loByte (w : Word) : Byte := BitVec.ofNat 8 w.toNat

/-- Bits 15 to 8 of a word (R11). -/
def hiByte (w : Word) : Byte := BitVec.ofNat 8 (w.toNat / 256)

/-- What follows an opcode byte: the instruction waiting for no operand byte, for one, or for the two of a word (R91, R92). -/
inductive Form where
  | none (i : Instr)
  | byte (mk : Byte → Instr)
  | word (mk : Word → Instr)

/-- The 256-entry decode table, absent entries being the undefined bytes (R93, R96, R97, R99). -/
def formOf (b : Byte) : Option Form :=
  match b with
  | 0x00#8 => some (.none .brk)
  | 0x01#8 => some (.byte .oraIndX)
  | 0x05#8 => some (.byte .oraZp)
  | 0x06#8 => some (.byte .aslZp)
  | 0x08#8 => some (.none .php)
  | 0x09#8 => some (.byte .oraImm)
  | 0x0A#8 => some (.none .aslAcc)
  | 0x0D#8 => some (.word .oraAbs)
  | 0x0E#8 => some (.word .aslAbs)
  | 0x10#8 => some (.byte .bpl)
  | 0x11#8 => some (.byte .oraIndY)
  | 0x15#8 => some (.byte .oraZpX)
  | 0x16#8 => some (.byte .aslZpX)
  | 0x18#8 => some (.none .clc)
  | 0x19#8 => some (.word .oraAbsY)
  | 0x1D#8 => some (.word .oraAbsX)
  | 0x1E#8 => some (.word .aslAbsX)
  | 0x20#8 => some (.word .jsr)
  | 0x21#8 => some (.byte .andIndX)
  | 0x24#8 => some (.byte .bitZp)
  | 0x25#8 => some (.byte .andZp)
  | 0x26#8 => some (.byte .rolZp)
  | 0x28#8 => some (.none .plp)
  | 0x29#8 => some (.byte .andImm)
  | 0x2A#8 => some (.none .rolAcc)
  | 0x2C#8 => some (.word .bitAbs)
  | 0x2D#8 => some (.word .andAbs)
  | 0x2E#8 => some (.word .rolAbs)
  | 0x30#8 => some (.byte .bmi)
  | 0x31#8 => some (.byte .andIndY)
  | 0x35#8 => some (.byte .andZpX)
  | 0x36#8 => some (.byte .rolZpX)
  | 0x38#8 => some (.none .sec)
  | 0x39#8 => some (.word .andAbsY)
  | 0x3D#8 => some (.word .andAbsX)
  | 0x3E#8 => some (.word .rolAbsX)
  | 0x40#8 => some (.none .rti)
  | 0x41#8 => some (.byte .eorIndX)
  | 0x45#8 => some (.byte .eorZp)
  | 0x46#8 => some (.byte .lsrZp)
  | 0x48#8 => some (.none .pha)
  | 0x49#8 => some (.byte .eorImm)
  | 0x4A#8 => some (.none .lsrAcc)
  | 0x4C#8 => some (.word .jmpAbs)
  | 0x4D#8 => some (.word .eorAbs)
  | 0x4E#8 => some (.word .lsrAbs)
  | 0x50#8 => some (.byte .bvc)
  | 0x51#8 => some (.byte .eorIndY)
  | 0x55#8 => some (.byte .eorZpX)
  | 0x56#8 => some (.byte .lsrZpX)
  | 0x58#8 => some (.none .cli)
  | 0x59#8 => some (.word .eorAbsY)
  | 0x5D#8 => some (.word .eorAbsX)
  | 0x5E#8 => some (.word .lsrAbsX)
  | 0x60#8 => some (.none .rts)
  | 0x61#8 => some (.byte .adcIndX)
  | 0x65#8 => some (.byte .adcZp)
  | 0x66#8 => some (.byte .rorZp)
  | 0x68#8 => some (.none .pla)
  | 0x69#8 => some (.byte .adcImm)
  | 0x6A#8 => some (.none .rorAcc)
  | 0x6C#8 => some (.word .jmpInd)
  | 0x6D#8 => some (.word .adcAbs)
  | 0x6E#8 => some (.word .rorAbs)
  | 0x70#8 => some (.byte .bvs)
  | 0x71#8 => some (.byte .adcIndY)
  | 0x75#8 => some (.byte .adcZpX)
  | 0x76#8 => some (.byte .rorZpX)
  | 0x78#8 => some (.none .sei)
  | 0x79#8 => some (.word .adcAbsY)
  | 0x7D#8 => some (.word .adcAbsX)
  | 0x7E#8 => some (.word .rorAbsX)
  | 0x81#8 => some (.byte .staIndX)
  | 0x84#8 => some (.byte .styZp)
  | 0x85#8 => some (.byte .staZp)
  | 0x86#8 => some (.byte .stxZp)
  | 0x88#8 => some (.none .dey)
  | 0x8A#8 => some (.none .txa)
  | 0x8C#8 => some (.word .styAbs)
  | 0x8D#8 => some (.word .staAbs)
  | 0x8E#8 => some (.word .stxAbs)
  | 0x90#8 => some (.byte .bcc)
  | 0x91#8 => some (.byte .staIndY)
  | 0x94#8 => some (.byte .styZpX)
  | 0x95#8 => some (.byte .staZpX)
  | 0x96#8 => some (.byte .stxZpY)
  | 0x98#8 => some (.none .tya)
  | 0x99#8 => some (.word .staAbsY)
  | 0x9A#8 => some (.none .txs)
  | 0x9D#8 => some (.word .staAbsX)
  | 0xA0#8 => some (.byte .ldyImm)
  | 0xA1#8 => some (.byte .ldaIndX)
  | 0xA2#8 => some (.byte .ldxImm)
  | 0xA4#8 => some (.byte .ldyZp)
  | 0xA5#8 => some (.byte .ldaZp)
  | 0xA6#8 => some (.byte .ldxZp)
  | 0xA8#8 => some (.none .tay)
  | 0xA9#8 => some (.byte .ldaImm)
  | 0xAA#8 => some (.none .tax)
  | 0xAC#8 => some (.word .ldyAbs)
  | 0xAD#8 => some (.word .ldaAbs)
  | 0xAE#8 => some (.word .ldxAbs)
  | 0xB0#8 => some (.byte .bcs)
  | 0xB1#8 => some (.byte .ldaIndY)
  | 0xB4#8 => some (.byte .ldyZpX)
  | 0xB5#8 => some (.byte .ldaZpX)
  | 0xB6#8 => some (.byte .ldxZpY)
  | 0xB8#8 => some (.none .clv)
  | 0xB9#8 => some (.word .ldaAbsY)
  | 0xBA#8 => some (.none .tsx)
  | 0xBC#8 => some (.word .ldyAbsX)
  | 0xBD#8 => some (.word .ldaAbsX)
  | 0xBE#8 => some (.word .ldxAbsY)
  | 0xC0#8 => some (.byte .cpyImm)
  | 0xC1#8 => some (.byte .cmpIndX)
  | 0xC4#8 => some (.byte .cpyZp)
  | 0xC5#8 => some (.byte .cmpZp)
  | 0xC6#8 => some (.byte .decZp)
  | 0xC8#8 => some (.none .iny)
  | 0xC9#8 => some (.byte .cmpImm)
  | 0xCA#8 => some (.none .dex)
  | 0xCC#8 => some (.word .cpyAbs)
  | 0xCD#8 => some (.word .cmpAbs)
  | 0xCE#8 => some (.word .decAbs)
  | 0xD0#8 => some (.byte .bne)
  | 0xD1#8 => some (.byte .cmpIndY)
  | 0xD5#8 => some (.byte .cmpZpX)
  | 0xD6#8 => some (.byte .decZpX)
  | 0xD8#8 => some (.none .cld)
  | 0xD9#8 => some (.word .cmpAbsY)
  | 0xDD#8 => some (.word .cmpAbsX)
  | 0xDE#8 => some (.word .decAbsX)
  | 0xE0#8 => some (.byte .cpxImm)
  | 0xE1#8 => some (.byte .sbcIndX)
  | 0xE4#8 => some (.byte .cpxZp)
  | 0xE5#8 => some (.byte .sbcZp)
  | 0xE6#8 => some (.byte .incZp)
  | 0xE8#8 => some (.none .inx)
  | 0xE9#8 => some (.byte .sbcImm)
  | 0xEA#8 => some (.none .nop)
  | 0xEC#8 => some (.word .cpxAbs)
  | 0xED#8 => some (.word .sbcAbs)
  | 0xEE#8 => some (.word .incAbs)
  | 0xF0#8 => some (.byte .beq)
  | 0xF1#8 => some (.byte .sbcIndY)
  | 0xF5#8 => some (.byte .sbcZpX)
  | 0xF6#8 => some (.byte .incZpX)
  | 0xF8#8 => some (.none .sed)
  | 0xF9#8 => some (.word .sbcAbsY)
  | 0xFD#8 => some (.word .sbcAbsX)
  | 0xFE#8 => some (.word .incAbsX)
  | _ => none

/-- Why bytes are no instruction. -/
inductive DecodeError where
  | undefinedByte (b : Byte)  -- the byte has no OpCode (R94, R99); the engine recovers with a no-op (R125)
  | truncated                 -- the bytes given end before the instruction does; never so in memory
deriving DecidableEq, Repr

/-- The instruction a form stands for with the operand bytes that follow, low byte first (R92), and the bytes after them. -/
def Form.fill : Form → List Byte → Except DecodeError (Instr × List Byte)
  | .none i, rest => .ok (i, rest)
  | .byte mk, o :: rest => .ok (mk o, rest)
  | .word mk, lo :: hi :: rest => .ok (mk (wordOf lo hi), rest)
  | .byte _, [] | .word _, [] | .word _, [_] => .error .truncated

/-- The first instruction of a byte sequence and the bytes after it. The size follows from the opcode byte alone (R90). The
byte a BRK ignores under BRK_SIZE = 2 is no part of the encoding; the fetch steps over it (`Instr.size`, log 18). -/
def decode : List Byte → Except DecodeError (Instr × List Byte)
  | [] => .error .truncated
  | b :: rest =>
    match formOf b with
    | none => .error (.undefinedByte b)
    | some f => f.fill rest

/-- The bytes of an instruction: the opcode, then its operand, low byte first (R90 to R92, R98). -/
def encode : Instr → List Byte
  | .ldaImm imm => [0xA9#8, imm]
  | .ldaZp zp => [0xA5#8, zp]
  | .ldaZpX zp => [0xB5#8, zp]
  | .ldaAbs addr => [0xAD#8, loByte addr, hiByte addr]
  | .ldaAbsX addr => [0xBD#8, loByte addr, hiByte addr]
  | .ldaAbsY addr => [0xB9#8, loByte addr, hiByte addr]
  | .ldaIndX zp => [0xA1#8, zp]
  | .ldaIndY zp => [0xB1#8, zp]
  | .ldxImm imm => [0xA2#8, imm]
  | .ldxZp zp => [0xA6#8, zp]
  | .ldxZpY zp => [0xB6#8, zp]
  | .ldxAbs addr => [0xAE#8, loByte addr, hiByte addr]
  | .ldxAbsY addr => [0xBE#8, loByte addr, hiByte addr]
  | .ldyImm imm => [0xA0#8, imm]
  | .ldyZp zp => [0xA4#8, zp]
  | .ldyZpX zp => [0xB4#8, zp]
  | .ldyAbs addr => [0xAC#8, loByte addr, hiByte addr]
  | .ldyAbsX addr => [0xBC#8, loByte addr, hiByte addr]
  | .staZp zp => [0x85#8, zp]
  | .staZpX zp => [0x95#8, zp]
  | .staAbs addr => [0x8D#8, loByte addr, hiByte addr]
  | .staAbsX addr => [0x9D#8, loByte addr, hiByte addr]
  | .staAbsY addr => [0x99#8, loByte addr, hiByte addr]
  | .staIndX zp => [0x81#8, zp]
  | .staIndY zp => [0x91#8, zp]
  | .stxZp zp => [0x86#8, zp]
  | .stxZpY zp => [0x96#8, zp]
  | .stxAbs addr => [0x8E#8, loByte addr, hiByte addr]
  | .styZp zp => [0x84#8, zp]
  | .styZpX zp => [0x94#8, zp]
  | .styAbs addr => [0x8C#8, loByte addr, hiByte addr]
  | .adcImm imm => [0x69#8, imm]
  | .adcZp zp => [0x65#8, zp]
  | .adcZpX zp => [0x75#8, zp]
  | .adcAbs addr => [0x6D#8, loByte addr, hiByte addr]
  | .adcAbsX addr => [0x7D#8, loByte addr, hiByte addr]
  | .adcAbsY addr => [0x79#8, loByte addr, hiByte addr]
  | .adcIndX zp => [0x61#8, zp]
  | .adcIndY zp => [0x71#8, zp]
  | .sbcImm imm => [0xE9#8, imm]
  | .sbcZp zp => [0xE5#8, zp]
  | .sbcZpX zp => [0xF5#8, zp]
  | .sbcAbs addr => [0xED#8, loByte addr, hiByte addr]
  | .sbcAbsX addr => [0xFD#8, loByte addr, hiByte addr]
  | .sbcAbsY addr => [0xF9#8, loByte addr, hiByte addr]
  | .sbcIndX zp => [0xE1#8, zp]
  | .sbcIndY zp => [0xF1#8, zp]
  | .cmpImm imm => [0xC9#8, imm]
  | .cmpZp zp => [0xC5#8, zp]
  | .cmpZpX zp => [0xD5#8, zp]
  | .cmpAbs addr => [0xCD#8, loByte addr, hiByte addr]
  | .cmpAbsX addr => [0xDD#8, loByte addr, hiByte addr]
  | .cmpAbsY addr => [0xD9#8, loByte addr, hiByte addr]
  | .cmpIndX zp => [0xC1#8, zp]
  | .cmpIndY zp => [0xD1#8, zp]
  | .cpxImm imm => [0xE0#8, imm]
  | .cpxZp zp => [0xE4#8, zp]
  | .cpxAbs addr => [0xEC#8, loByte addr, hiByte addr]
  | .cpyImm imm => [0xC0#8, imm]
  | .cpyZp zp => [0xC4#8, zp]
  | .cpyAbs addr => [0xCC#8, loByte addr, hiByte addr]
  | .andImm imm => [0x29#8, imm]
  | .andZp zp => [0x25#8, zp]
  | .andZpX zp => [0x35#8, zp]
  | .andAbs addr => [0x2D#8, loByte addr, hiByte addr]
  | .andAbsX addr => [0x3D#8, loByte addr, hiByte addr]
  | .andAbsY addr => [0x39#8, loByte addr, hiByte addr]
  | .andIndX zp => [0x21#8, zp]
  | .andIndY zp => [0x31#8, zp]
  | .eorImm imm => [0x49#8, imm]
  | .eorZp zp => [0x45#8, zp]
  | .eorZpX zp => [0x55#8, zp]
  | .eorAbs addr => [0x4D#8, loByte addr, hiByte addr]
  | .eorAbsX addr => [0x5D#8, loByte addr, hiByte addr]
  | .eorAbsY addr => [0x59#8, loByte addr, hiByte addr]
  | .eorIndX zp => [0x41#8, zp]
  | .eorIndY zp => [0x51#8, zp]
  | .oraImm imm => [0x09#8, imm]
  | .oraZp zp => [0x05#8, zp]
  | .oraZpX zp => [0x15#8, zp]
  | .oraAbs addr => [0x0D#8, loByte addr, hiByte addr]
  | .oraAbsX addr => [0x1D#8, loByte addr, hiByte addr]
  | .oraAbsY addr => [0x19#8, loByte addr, hiByte addr]
  | .oraIndX zp => [0x01#8, zp]
  | .oraIndY zp => [0x11#8, zp]
  | .bitZp zp => [0x24#8, zp]
  | .bitAbs addr => [0x2C#8, loByte addr, hiByte addr]
  | .jmpAbs target => [0x4C#8, loByte target, hiByte target]
  | .jmpInd ptr => [0x6C#8, loByte ptr, hiByte ptr]
  | .bcc rel => [0x90#8, rel]
  | .bcs rel => [0xB0#8, rel]
  | .beq rel => [0xF0#8, rel]
  | .bmi rel => [0x30#8, rel]
  | .bne rel => [0xD0#8, rel]
  | .bpl rel => [0x10#8, rel]
  | .bvc rel => [0x50#8, rel]
  | .bvs rel => [0x70#8, rel]
  | .tax => [0xAA#8]
  | .tay => [0xA8#8]
  | .txa => [0x8A#8]
  | .tya => [0x98#8]
  | .txs => [0x9A#8]
  | .tsx => [0xBA#8]
  | .pha => [0x48#8]
  | .php => [0x08#8]
  | .pla => [0x68#8]
  | .plp => [0x28#8]
  | .clc => [0x18#8]
  | .sec => [0x38#8]
  | .cli => [0x58#8]
  | .sei => [0x78#8]
  | .cld => [0xD8#8]
  | .sed => [0xF8#8]
  | .clv => [0xB8#8]
  | .brk => [0x00#8]
  | .nop => [0xEA#8]
  | .aslAcc => [0x0A#8]
  | .aslZp zp => [0x06#8, zp]
  | .aslZpX zp => [0x16#8, zp]
  | .aslAbs addr => [0x0E#8, loByte addr, hiByte addr]
  | .aslAbsX addr => [0x1E#8, loByte addr, hiByte addr]
  | .lsrAcc => [0x4A#8]
  | .lsrZp zp => [0x46#8, zp]
  | .lsrZpX zp => [0x56#8, zp]
  | .lsrAbs addr => [0x4E#8, loByte addr, hiByte addr]
  | .lsrAbsX addr => [0x5E#8, loByte addr, hiByte addr]
  | .rolAcc => [0x2A#8]
  | .rolZp zp => [0x26#8, zp]
  | .rolZpX zp => [0x36#8, zp]
  | .rolAbs addr => [0x2E#8, loByte addr, hiByte addr]
  | .rolAbsX addr => [0x3E#8, loByte addr, hiByte addr]
  | .rorAcc => [0x6A#8]
  | .rorZp zp => [0x66#8, zp]
  | .rorZpX zp => [0x76#8, zp]
  | .rorAbs addr => [0x6E#8, loByte addr, hiByte addr]
  | .rorAbsX addr => [0x7E#8, loByte addr, hiByte addr]
  | .incZp zp => [0xE6#8, zp]
  | .incZpX zp => [0xF6#8, zp]
  | .incAbs addr => [0xEE#8, loByte addr, hiByte addr]
  | .incAbsX addr => [0xFE#8, loByte addr, hiByte addr]
  | .decZp zp => [0xC6#8, zp]
  | .decZpX zp => [0xD6#8, zp]
  | .decAbs addr => [0xCE#8, loByte addr, hiByte addr]
  | .decAbsX addr => [0xDE#8, loByte addr, hiByte addr]
  | .inx => [0xE8#8]
  | .iny => [0xC8#8]
  | .dex => [0xCA#8]
  | .dey => [0x88#8]
  | .jsr target => [0x20#8, loByte target, hiByte target]
  | .rts => [0x60#8]
  | .rti => [0x40#8]

/-- The encoding byte of an instruction (R90). -/
def Instr.opcodeByte (i : Instr) : Byte := (encode i).headD 0

/-- The encoded size of an instruction: its mode's, but for BRK, whose size is BRK_SIZE (R91). -/
def Instr.size (brk : BrkSize) (i : Instr) : Nat :=
  match i.mnemonic with
  | .brk => brk.bytes
  | _ => i.mode.size

/-- The part of the catalog a mnemonic belongs to: the 13 mnemonics of spec/46_unlisted.md are unlisted (R96, R100). -/
def Mnemonic.catalog : Mnemonic → Catalog
  | .asl | .lsr | .rol | .ror | .inc | .dec | .inx | .iny | .dex | .dey | .jsr | .rts | .rti => .unlisted
  | _ => .core

/-- The three decode classes of a byte (R96). -/
inductive DecodeClass where
  | core
  | unlisted
  | undefined
deriving DecidableEq, Repr

/-- The instruction a form stands for when its operand bytes are zero; its OpCode is the form's whatever the operand. -/
def Form.sample : Form → Instr
  | .none i => i
  | .byte mk => mk 0
  | .word mk => mk 0

/-- The decode class of a byte (R96, R99, R100). -/
def classOf (b : Byte) : DecodeClass :=
  match formOf b with
  | none => .undefined
  | some f =>
    match f.sample.mnemonic.catalog with
    | .core => .core
    | .unlisted => .unlisted

/-- The default cycle table of R452, by mnemonic and mode (PRESUMED in the spec: general knowledge, log 4). -/
def OpCode.baseCycles (op : OpCode) : Nat :=
  match op.mnemonic, op.mode with
  | .jmp, .absolute => 3
  | .jmp, _ => 5
  | .jsr, _ | .rts, _ | .rti, _ => 6
  | .brk, _ => 7
  | .pha, _ | .php, _ => 3
  | .pla, _ | .plp, _ => 4
  | .asl, m | .lsr, m | .rol, m | .ror, m | .inc, m | .dec, m =>
    match m with
    | .zeroPage => 5
    | .zeroPageX | .absolute => 6
    | .absoluteX => 7
    | _ => 2
  | .sta, .absoluteX | .sta, .absoluteY => 5
  | .sta, .indirectY => 6
  | _, .implied | _, .immediate | _, .relative => 2
  | _, .zeroPage => 3
  | _, .zeroPageX | _, .zeroPageY | _, .absolute | _, .absoluteX | _, .absoluteY => 4
  | _, .indirectY => 5
  | _, .indirect => 5
  | _, .indirectX => 6

/-- The cycle cost of an instruction under the parameter CYCLES: a constant of the descriptor, whatever the operand
(R132, R453). -/
def cycleCost (p : Params) (i : Instr) : Nat :=
  (p.cycles.lookup i.opcodeByte).getD i.opCode.baseCycles

/-- Byte `k` of a table word, bits at and above `nbits` read as 0: bit 0 of `w` is bit 0 of the opcode byte, bits 15 to 8 are
the second byte, and so on (log 19). -/
def tableByte (nbits w k : Nat) : Byte := BitVec.ofNat 8 (w % 2 ^ nbits / 256 ^ k)

/-- The three bytes, the longest an instruction takes (R90), that a table word stands for. -/
def tableBytes (nbits w : Nat) : List Byte := [tableByte nbits w 0, tableByte nbits w 1, tableByte nbits w 2]

/-- The instruction the decoder reads from a table word of `nbits` bits. -/
def decodeTableWord (nbits w : Nat) : Option Instr :=
  match decode (tableBytes nbits w) with
  | .ok (i, _) => some i
  | .error _ => none

end Sys2Proof
end

