-- ==== Sys2Proof/Machine/State.lean ====
section
/-! DEFINITION. The state of the machine as plain data: what spec/10_state.md (R30 to R53) gives it, the outputs of the last
transition (R50), and the parameters the model takes (spec/00_scope.md R10). -/

namespace Sys2Proof.Machine

/-- The memory: (address, byte) pairs in the canonical form `Memory.wf` (Machine/Ops.lean); an unlisted address of the
65,536-byte space reads as `Memory.blank` (spec/20_memory.md R60, log 11). -/
abbrev Memory := List Host.Cell

/-- The run state RUN (R47). -/
inductive RunState where
  | running
  | halted
deriving DecidableEq, Repr

/-- Why the machine stops: "the closed type OutOfRange(addr)" (spec/60_exceptions.md R401). -/
inductive Fault where
  /-- Held in FAULT by a step that was asked an address outside 0 to 65535 (R402), and answered by `step` in every state that
  holds it, since a faulted state is terminal (R403). Safe: the spec stops there too. -/
  | outOfRange (addr : Int)
deriving DecidableEq, Repr

/-- Why the machine has no meaning for what it is asked to do. -/
inductive Refusal where
  /-- Raised by an arm of `exec` whose instruction has no meaning in this model; there is no such arm. Safe. -/
  | notModelled (mnemonic : String)
  /-- Answered by `step` in every state whose REFUSED mark is set, since no step is enabled there (spec/40_engine.md R126,
  with UNLISTED_FAMILIES = refuse only). Safe: the spec stops there too. -/
  | unlistedByte (b : Byte)
deriving DecidableEq, Repr

/-- The notifications, "a closed enumeration" (R133). -/
inductive Event where
  | instructionExecuted
  | memoryAccess
  | memoryChanged
  | settingsChanged
  | cpuReset
  | unknownEncoding (b : Byte) (addr : Word)
deriving DecidableEq, Repr

/-- The outputs of one transition: the cycle cost a step returns, if it returns one, and the events in order
(spec/40_engine.md R121, spec/10_state.md R50). -/
structure Outputs where
  cycles : Option Nat
  events : List Event
deriving DecidableEq, Repr

/-- The machine state. -/
structure State where
  a       : Byte           -- accumulator (R30)
  x       : Byte           -- index X (R30)
  y       : Byte           -- index Y (R30)
  sp      : Byte           -- stack pointer (R30)
  p       : Byte           -- processor status, bits NVUBDIZC (R38)
  pc      : Word           -- program counter (R35)
  mem     : Memory         -- the 65,536 bytes (R60)
  run     : RunState       -- RUN (R47)
  fault   : Option Fault   -- FAULT (R48)
  refused : Option Byte    -- REFUSED (R49)
  out     : Outputs        -- outputs of the last transition, read by no rule (R50, log 10)
  params  : Params         -- the parameters of R10, written by nothing (log 6)
deriving DecidableEq, Repr

/-- The state after a reset (R53, spec/70_reset_and_hazards.md R441) of a machine with parameters `p`, the bytes `a`, `x` and
`y` being the choice INIT_AXY of that reset. -/
def State.resetWith (p : Params) (a x y : Byte) : State where
  a       := a
  x       := x
  y       := y
  sp      := 0xFF
  p       := 0x00
  pc      := 0x0000
  mem     := []
  run     := .running
  fault   := none
  refused := none
  out     := { cycles := none, events := [.memoryChanged, .cpuReset] }
  params  := p

/-- The machine right after reset. A, X, Y: the spec gives no value (INIT_AXY, D11); DESIGN CHOICE 0x00 each (log 5, unsafe).
Parameters: `Params.executing` (log 1). -/
def State.reset : State := State.resetWith Params.executing 0 0 0

end Sys2Proof.Machine
end

