-- ==== Sys2Proof/Machine/Ops.lean ====
section
/-! DEFINITION. The operations over memory, registers and the stack that every meaning shares, and the one exception the spec
describes (spec/00_scope.md R12 to R15, spec/10_state.md R34, R35, spec/20_memory.md R60 to R66, spec/60_exceptions.md R402). -/

namespace Sys2Proof.Machine

/-! ## Number readings (R12) -/

/-- `s8(b)`, the signed reading of a byte (R12). -/
def s8 (b : Byte) : Int := if b.toNat < 128 then b.toNat else b.toNat - 256

/-- `zext_16(b)` (R12). -/
def zext16 (b : Byte) : Word := BitVec.ofNat 16 b.toNat

/-- Byte-wrapping increment of an 8-bit register (R34). -/
def incByte (b : Byte) : Byte := b + 1

/-- Byte-wrapping decrement of an 8-bit register (R34). -/
def decByte (b : Byte) : Byte := b - 1

/-- Increment of the program counter, modulo 65536 (R35). -/
def incWord (w : Word) : Word := w + 1

/-- Decrement of the program counter, modulo 65536 (R35). -/
def decWord (w : Word) : Word := w - 1

/-! ## Memory -/

/-- What an unlisted address reads as: "zeroes all of memory" at reset (R53; log 11). -/
def Memory.blank : Byte := 0x00

/-- The byte at an address (R61). -/
def Memory.read : Memory → Nat → Byte
  | [], _ => Memory.blank
  | (b, v) :: m, a => if b = a then v else Memory.read m a

/-- The memory with `v` at address `a`, in canonical form: writing the blank value unlists the address (R61, log 11). -/
def Memory.write : Memory → Nat → Byte → Memory
  | [], a, v => if v = Memory.blank then [] else [(a, v)]
  | (b, w) :: m, a, v =>
    if a < b then (if v = Memory.blank then (b, w) :: m else (a, v) :: (b, w) :: m)
    else if a = b then (if v = Memory.blank then m else (a, v) :: m)
    else (b, w) :: Memory.write m a v

/-- The canonical form: addresses strictly rising and inside the address space (R60), no blank byte listed. -/
abbrev Memory.wf (m : Memory) : Prop :=
  List.Pairwise (fun c d : Host.Cell => c.1 < d.1) m ∧ ∀ c ∈ m, c.2 ≠ Memory.blank ∧ c.1 < 65536

/-- The byte at a 16-bit address, always inside the address space. -/
def State.byteAt (s : State) (w : Word) : Byte := s.mem.read w.toNat

/-- The address is inside the address space, 0 to 65535 (R60, R62). By cases on the sign, so that it reduces on an address that
is not a numeral; `inRange_iff` (Laws/Memory.lean) says it as an interval. -/
def inRange (addr : Int) : Bool :=
  match addr with
  | .ofNat n => Nat.blt n 65536
  | .negSucc _ => false

/-- `MemRead(addr, 1)` with its bounds check (R14, R62). -/
def memRead (s : State) (addr : Int) : Except Fault Byte :=
  if inRange addr then .ok (s.mem.read addr.toNat) else .error (.outOfRange addr)

/-- `MemWrite(addr, 1, v)` with its bounds check (R14, R62). -/
def memWrite (s : State) (addr : Int) (v : Byte) : Except Fault State :=
  if inRange addr then .ok { s with mem := s.mem.write addr.toNat v } else .error (.outOfRange addr)

/-! ## Registers -/

/-- The four 8-bit registers an instruction names as operand (R30). -/
inductive Reg where
  | a
  | x
  | y
  | sp
deriving DecidableEq, Repr

/-- Read a register (R13). -/
def State.reg (s : State) : Reg → Byte
  | .a => s.a
  | .x => s.x
  | .y => s.y
  | .sp => s.sp

/-- `r <- v` (R13). -/
def State.setReg (s : State) (r : Reg) (v : Byte) : State :=
  match r with
  | .a => { s with a := v }
  | .x => { s with x := v }
  | .y => { s with y := v }
  | .sp => { s with sp := v }

/-! ## The stack (R15, R290): in the zero page, SP the next free byte, wrapping and never faulting -/

/-- `Push(v)`: store at memory[SP], then decrement SP. -/
def State.push (v : Byte) (s : State) : State :=
  { s with mem := s.mem.write (zext16 s.sp).toNat v, sp := decByte s.sp }

/-- SP after a `Pull()`. -/
def State.popped (s : State) : State := { s with sp := incByte s.sp }

/-- The byte a `Pull()` returns: memory[SP] after the increment. -/
def State.top (s : State) : Byte := s.byteAt (zext16 (incByte s.sp))

/-! ## Taking the exception, and returning (spec/60_exceptions.md)

There is no trap entry: nothing is saved, no mode changes, no vector is read (R410). OutOfRange ends the step with FAULT set
and every other piece of state as the operand fetch left it (R402). There is no trap return (R411): RTI only pulls a frame. -/

/-- FAULT <- the fault, and nothing else (R402). `s` is the state after the operand fetch. -/
def State.raise (f : Fault) (s : State) : State := { s with fault := some f }

/-- What a meaning answers. -/
abbrev Result := Host.Outcome State Fault Refusal

/-- Go on to the state `k v` with the value `v` of an access, or take OutOfRange on the state `s` after the operand fetch. Every
meaning that can fault has this form: "every access that can raise OutOfRange comes before any register, flag or PC write the
instruction makes" (R139). -/
def attempt {α : Type} (s : State) (r : Except Fault α) (k : α → State) : Result :=
  match r with
  | .ok v => .next (k v)
  | .error f => .next (s.raise f)

/-- The pull of RTI: P, then PC low byte first (R336). -/
def State.returnFromInterrupt (s : State) : State :=
  let s₁ := s.popped
  let s₂ := s₁.popped
  { s₂.popped with p := s.top, pc := wordOf s₁.top s₂.top }

end Sys2Proof.Machine
end

