-- ==== Sys2Proof/Machine/Flags.lean ====
section
/-! DEFINITION. The processor status P and every computation of its flags (spec/10_state.md R38 to R45, spec/00_scope.md R15,
spec/43_alu.md, spec/46_unlisted.md R322 to R325). Each result function gives the value an instruction writes, each status
function the whole new P. -/

namespace Sys2Proof.Machine

/-- The eight flags of P (R38). -/
inductive Flag where
  | c  -- CARRY
  | z  -- ZERO
  | i  -- INTERRUPT_DISABLE
  | d  -- DECIMAL_MODE
  | b  -- BREAK_COMMAND
  | u  -- UNUSED
  | v  -- OVERFLOW
  | n  -- NEGATIVE
deriving DecidableEq, Repr

/-- The bit position of a flag (R38). -/
def Flag.bit : Flag → Nat
  | .c => 0
  | .z => 1
  | .i => 2
  | .d => 3
  | .b => 4
  | .u => 5
  | .v => 6
  | .n => 7

/-- Read one flag of a status byte. -/
def getFlag (p : Byte) (f : Flag) : Bool := p.getLsbD f.bit

/-- Write one flag of a status byte "by a single-bit mask" (R39). -/
def setFlag (p : Byte) (f : Flag) (v : Bool) : Byte :=
  if v then p ||| (1#8 <<< f.bit) else p &&& ~~~(1#8 <<< f.bit)

/-- Read one flag of the state's P. -/
def State.flag (s : State) (f : Flag) : Bool := getFlag s.p f

/-- `P.f <- v` (R13, R39). -/
def State.setFlag (s : State) (f : Flag) (v : Bool) : State := { s with p := Machine.setFlag s.p f v }

/-- P after `SetNZ(v)` (R15). -/
def statusNZ (p v : Byte) : Byte := Machine.setFlag (Machine.setFlag p .z (v == 0)) .n v.msb

/-- `SetNZ(v)` (R15). -/
def State.setNZ (s : State) (v : Byte) : State := { s with p := statusNZ s.p v }

/-- The carry flag as the number 0 or 1. -/
def carryIn (p : Byte) : Nat := (getFlag p .c).toNat

/-- The signed 8-bit result over/underflows (R201). -/
def signedOverflow (v : Int) : Bool := decide (v < -128) || decide (127 < v)

/-! ## Add and subtract (R210, R212); P.D is not read (R203) -/

/-- `(A + M + c) mod 256` (R210). -/
def adcValue (p a m : Byte) : Byte := BitVec.ofNat 8 (a.toNat + m.toNat + carryIn p)

/-- The signed overflow of ADC (R201, R210). -/
def adcOverflow (p a m : Byte) : Bool := signedOverflow (s8 a + s8 m + carryIn p)

/-- P after ADC: V and C both the signed overflow, Z and N from the result (R210). -/
def adcStatus (p a m : Byte) : Byte :=
  let ovf := adcOverflow p a m
  statusNZ (setFlag (setFlag p .v ovf) .c ovf) (adcValue p a m)

/-- The borrow `1 - P.C` (R212). -/
def borrowIn (p : Byte) : Int := 1 - carryIn p

/-- `(A - M - b) mod 256` (R212). -/
def sbcValue (p a m : Byte) : Byte := BitVec.ofInt 8 (a.toNat - m.toNat - borrowIn p)

/-- The signed overflow of SBC (R201, R212). -/
def sbcOverflow (p a m : Byte) : Bool := signedOverflow (s8 a - s8 m - borrowIn p)

/-- P after SBC: V the signed overflow, C its complement (R212, C8), Z and N from the result. -/
def sbcStatus (p a m : Byte) : Byte :=
  let ovf := sbcOverflow p a m
  statusNZ (setFlag (setFlag p .v ovf) .c (!ovf)) (sbcValue p a m)

/-! ## Compare and BIT -/

/-- P after a compare of register value `r` with `m`: C from the unsigned order, Z and N from the difference (R214). -/
def compareStatus (p r m : Byte) : Byte := statusNZ (setFlag p .c (decide (m.toNat ≤ r.toNat))) (r - m)

/-- P after BIT: Z from A AND M, N and V from bits 7 and 6 of M (R225). -/
def bitStatus (p a m : Byte) : Byte :=
  setFlag (setFlag (setFlag p .z ((a &&& m) == 0)) .n (m.getLsbD 7)) .v (m.getLsbD 6)

/-! ## Bitwise operations (R219 to R222) -/

/-- `A AND M` (R220). -/
def andValue (a m : Byte) : Byte := a &&& m

/-- `A XOR M` (R221). -/
def eorValue (a m : Byte) : Byte := a ^^^ m

/-- `A OR M` (R222). -/
def oraValue (a m : Byte) : Byte := a ||| m

/-! ## Read-modify-write operations: the new value and the new P from the old value and the old P -/

/-- ASL (R322). -/
def aslOp (p v : Byte) : Byte × Byte :=
  let r : Byte := BitVec.ofNat 8 (v.toNat * 2)
  (r, statusNZ (setFlag p .c (v.getLsbD 7)) r)

/-- LSR (R323). -/
def lsrOp (p v : Byte) : Byte × Byte :=
  let r : Byte := BitVec.ofNat 8 (v.toNat / 2)
  (r, statusNZ (setFlag p .c (v.getLsbD 0)) r)

/-- ROL (R324). -/
def rolOp (p v : Byte) : Byte × Byte :=
  let r : Byte := BitVec.ofNat 8 (v.toNat * 2 + carryIn p)
  (r, statusNZ (setFlag p .c (v.getLsbD 7)) r)

/-- ROR (R325). -/
def rorOp (p v : Byte) : Byte × Byte :=
  let r : Byte := BitVec.ofNat 8 (v.toNat / 2 + 128 * carryIn p)
  (r, statusNZ (setFlag p .c (v.getLsbD 0)) r)

/-- INC (R326). -/
def incOp (p v : Byte) : Byte × Byte :=
  let r := incByte v
  (r, statusNZ p r)

/-- DEC (R327). -/
def decOp (p v : Byte) : Byte × Byte :=
  let r := decByte v
  (r, statusNZ p r)

end Sys2Proof.Machine
end

