-- ==== Sys2Proof/Machine/Operands.lean ====
section
/-! DEFINITION. The addressing-mode resolver and the operand read, write and read-modify-write (spec/41_addressing.md).
The types leave no way to ask an effective address in IMPLIED, IMMEDIATE or RELATIVE mode (R162, R406). No mode writes a
register or memory (R150, R173). -/

namespace Sys2Proof.Machine

/-- The modes that have an effective address, with their operand bytes (R151 to R159). -/
inductive MemOperand where
  | zeroPage  (zp : Byte)
  | zeroPageX (zp : Byte)
  | zeroPageY (zp : Byte)
  | absolute  (addr : Word)
  | absoluteX (addr : Word)
  | absoluteY (addr : Word)
  | indirect  (ptr : Word)
  | indirectX (zp : Byte)
  | indirectY (zp : Byte)
deriving DecidableEq, Repr

/-- The operand of a reading instruction (R16, R170). -/
inductive Operand where
  | immediate (v : Byte)
  | memory    (m : MemOperand)
deriving DecidableEq, Repr

/-- The operand of a read-modify-write instruction: the accumulator or a memory cell (R321). -/
inductive RmwOperand where
  | accumulator
  | memory (m : MemOperand)
deriving DecidableEq, Repr

/-- `Addr16(v)`, the 16-bit overflow rule (R164). -/
def addr16 (ovf : AddrOverflow) (v : Int) : Except Fault Word :=
  if inRange v then .ok (BitVec.ofInt 16 v)
  else
    match ovf with
    | .wrap16 => .ok (BitVec.ofInt 16 v)
    | .fault => .error (.outOfRange v)

/-- The little-endian pointer in the cells `a` and `b`, low byte first (R64, R65). -/
def readPointer (s : State) (a b : Int) : Except Fault Word := do
  let lo ← memRead s a
  let hi ← memRead s b
  .ok (wordOf lo hi)

/-- `EA(mode)`, the effective address (R151 to R159, R163). -/
def effectiveAddress (m : MemOperand) (s : State) : Except Fault Word :=
  match m with
  | .zeroPage zp => .ok (zext16 zp)
  | .zeroPageX zp => .ok (zext16 (zp + s.x))
  | .zeroPageY zp => .ok (zext16 (zp + s.y))
  | .absolute addr => .ok addr
  | .absoluteX addr => addr16 s.params.addrOverflow (addr.toNat + s.x.toNat)
  | .absoluteY addr => addr16 s.params.addrOverflow (addr.toNat + s.y.toNat)
  | .indirect ptr => do
    let lo ← memRead s ptr.toNat
    let next ← addr16 s.params.addrOverflow (ptr.toNat + 1)
    let hi ← memRead s next.toNat
    .ok (wordOf lo hi)
  | .indirectX zp =>
    let z := zp + s.x
    readPointer s z.toNat (z.toNat + 1)
  | .indirectY zp => do
    let base ← readPointer s zp.toNat (zp.toNat + 1)
    addr16 s.params.addrOverflow (base.toNat + s.y.toNat)

/-- `Operand(mode)` (R170). -/
def readOperand (o : Operand) (s : State) : Except Fault Byte :=
  match o with
  | .immediate v => .ok v
  | .memory m => do
    let ea ← effectiveAddress m s
    memRead s ea.toNat

/-- The write of a store instruction, `MemWrite(EA(mode), 1, v)` (R171). -/
def writeOperand (m : MemOperand) (v : Byte) (s : State) : Except Fault State := do
  let ea ← effectiveAddress m s
  memWrite s ea.toNat v

/-- The read-modify-write of an operand by `f`, which takes the old P and the old value to the new value and the new P: one
read and one write at the same address (R172, R321). -/
def modifyOperand (o : RmwOperand) (f : Byte → Byte → Byte × Byte) (s : State) : Except Fault State :=
  match o with
  | .accumulator =>
    let r := f s.p s.a
    .ok { s with a := r.1, p := r.2 }
  | .memory m => do
    let ea ← effectiveAddress m s
    let v ← memRead s ea.toNat
    let r := f s.p v
    let t ← memWrite s ea.toNat r.1
    .ok { t with p := r.2 }

/-- The RELATIVE target, computed from the program counter already past the instruction (R160). -/
def branchTarget (rel : Byte) (s : State) : Except Fault Word :=
  addr16 s.params.addrOverflow (s.pc.toNat + s8 rel)

end Sys2Proof.Machine
end

