-- ==== Sys2Proof/Machine/Alu.lean ====
section
/-! DEFINITION. The ALU instructions (spec/43_alu.md R200 to R225); their flags are computed in Machine/Flags.lean. -/

namespace Sys2Proof.Machine

/-- ADC (R210). -/
def addWithCarry (o : Operand) (s : State) : Result :=
  attempt s (readOperand o s) fun m => { s with a := adcValue s.p s.a m, p := adcStatus s.p s.a m }

/-- SBC (R212). -/
def subtractWithBorrow (o : Operand) (s : State) : Result :=
  attempt s (readOperand o s) fun m => { s with a := sbcValue s.p s.a m, p := sbcStatus s.p s.a m }

/-- The compare family: flags from register minus operand, "no register mutated" (R214). -/
def compare (r : Reg) (o : Operand) (s : State) : Result :=
  attempt s (readOperand o s) fun m => { s with p := compareStatus s.p (s.reg r) m }

/-- The bitwise family: "accumulator = accumulator OP operand; ZERO/NEGATIVE from result" (R219). -/
def bitwise (op : Byte → Byte → Byte) (o : Operand) (s : State) : Result :=
  attempt s (readOperand o s) fun m => ({ s with a := op s.a m }.setNZ (op s.a m))

/-- BIT (R225). -/
def bitTest (o : Operand) (s : State) : Result :=
  attempt s (readOperand o s) fun m => { s with p := bitStatus s.p s.a m }

/-! ADC, add with carry (R210) -/

def execAdcImm (imm : Byte) (s : State) : Result := addWithCarry (.immediate imm) s
def execAdcZp (zp : Byte) (s : State) : Result := addWithCarry (.memory (.zeroPage zp)) s
def execAdcZpX (zp : Byte) (s : State) : Result := addWithCarry (.memory (.zeroPageX zp)) s
def execAdcAbs (addr : Word) (s : State) : Result := addWithCarry (.memory (.absolute addr)) s
def execAdcAbsX (addr : Word) (s : State) : Result := addWithCarry (.memory (.absoluteX addr)) s
def execAdcAbsY (addr : Word) (s : State) : Result := addWithCarry (.memory (.absoluteY addr)) s
def execAdcIndX (zp : Byte) (s : State) : Result := addWithCarry (.memory (.indirectX zp)) s
def execAdcIndY (zp : Byte) (s : State) : Result := addWithCarry (.memory (.indirectY zp)) s

/-! SBC, subtract with borrow (R212) -/

def execSbcImm (imm : Byte) (s : State) : Result := subtractWithBorrow (.immediate imm) s
def execSbcZp (zp : Byte) (s : State) : Result := subtractWithBorrow (.memory (.zeroPage zp)) s
def execSbcZpX (zp : Byte) (s : State) : Result := subtractWithBorrow (.memory (.zeroPageX zp)) s
def execSbcAbs (addr : Word) (s : State) : Result := subtractWithBorrow (.memory (.absolute addr)) s
def execSbcAbsX (addr : Word) (s : State) : Result := subtractWithBorrow (.memory (.absoluteX addr)) s
def execSbcAbsY (addr : Word) (s : State) : Result := subtractWithBorrow (.memory (.absoluteY addr)) s
def execSbcIndX (zp : Byte) (s : State) : Result := subtractWithBorrow (.memory (.indirectX zp)) s
def execSbcIndY (zp : Byte) (s : State) : Result := subtractWithBorrow (.memory (.indirectY zp)) s

/-! CMP, compare accumulator (R215) -/

def execCmpImm (imm : Byte) (s : State) : Result := compare .a (.immediate imm) s
def execCmpZp (zp : Byte) (s : State) : Result := compare .a (.memory (.zeroPage zp)) s
def execCmpZpX (zp : Byte) (s : State) : Result := compare .a (.memory (.zeroPageX zp)) s
def execCmpAbs (addr : Word) (s : State) : Result := compare .a (.memory (.absolute addr)) s
def execCmpAbsX (addr : Word) (s : State) : Result := compare .a (.memory (.absoluteX addr)) s
def execCmpAbsY (addr : Word) (s : State) : Result := compare .a (.memory (.absoluteY addr)) s
def execCmpIndX (zp : Byte) (s : State) : Result := compare .a (.memory (.indirectX zp)) s
def execCmpIndY (zp : Byte) (s : State) : Result := compare .a (.memory (.indirectY zp)) s

/-! CPX, compare index X (R216) -/

def execCpxImm (imm : Byte) (s : State) : Result := compare .x (.immediate imm) s
def execCpxZp (zp : Byte) (s : State) : Result := compare .x (.memory (.zeroPage zp)) s
def execCpxAbs (addr : Word) (s : State) : Result := compare .x (.memory (.absolute addr)) s

/-! CPY, compare index Y (R217) -/

def execCpyImm (imm : Byte) (s : State) : Result := compare .y (.immediate imm) s
def execCpyZp (zp : Byte) (s : State) : Result := compare .y (.memory (.zeroPage zp)) s
def execCpyAbs (addr : Word) (s : State) : Result := compare .y (.memory (.absolute addr)) s

/-! AND, bitwise and (R220) -/

def execAndImm (imm : Byte) (s : State) : Result := bitwise andValue (.immediate imm) s
def execAndZp (zp : Byte) (s : State) : Result := bitwise andValue (.memory (.zeroPage zp)) s
def execAndZpX (zp : Byte) (s : State) : Result := bitwise andValue (.memory (.zeroPageX zp)) s
def execAndAbs (addr : Word) (s : State) : Result := bitwise andValue (.memory (.absolute addr)) s
def execAndAbsX (addr : Word) (s : State) : Result := bitwise andValue (.memory (.absoluteX addr)) s
def execAndAbsY (addr : Word) (s : State) : Result := bitwise andValue (.memory (.absoluteY addr)) s
def execAndIndX (zp : Byte) (s : State) : Result := bitwise andValue (.memory (.indirectX zp)) s
def execAndIndY (zp : Byte) (s : State) : Result := bitwise andValue (.memory (.indirectY zp)) s

/-! EOR, bitwise exclusive or (R221) -/

def execEorImm (imm : Byte) (s : State) : Result := bitwise eorValue (.immediate imm) s
def execEorZp (zp : Byte) (s : State) : Result := bitwise eorValue (.memory (.zeroPage zp)) s
def execEorZpX (zp : Byte) (s : State) : Result := bitwise eorValue (.memory (.zeroPageX zp)) s
def execEorAbs (addr : Word) (s : State) : Result := bitwise eorValue (.memory (.absolute addr)) s
def execEorAbsX (addr : Word) (s : State) : Result := bitwise eorValue (.memory (.absoluteX addr)) s
def execEorAbsY (addr : Word) (s : State) : Result := bitwise eorValue (.memory (.absoluteY addr)) s
def execEorIndX (zp : Byte) (s : State) : Result := bitwise eorValue (.memory (.indirectX zp)) s
def execEorIndY (zp : Byte) (s : State) : Result := bitwise eorValue (.memory (.indirectY zp)) s

/-! ORA, bitwise or (R222) -/

def execOraImm (imm : Byte) (s : State) : Result := bitwise oraValue (.immediate imm) s
def execOraZp (zp : Byte) (s : State) : Result := bitwise oraValue (.memory (.zeroPage zp)) s
def execOraZpX (zp : Byte) (s : State) : Result := bitwise oraValue (.memory (.zeroPageX zp)) s
def execOraAbs (addr : Word) (s : State) : Result := bitwise oraValue (.memory (.absolute addr)) s
def execOraAbsX (addr : Word) (s : State) : Result := bitwise oraValue (.memory (.absoluteX addr)) s
def execOraAbsY (addr : Word) (s : State) : Result := bitwise oraValue (.memory (.absoluteY addr)) s
def execOraIndX (zp : Byte) (s : State) : Result := bitwise oraValue (.memory (.indirectX zp)) s
def execOraIndY (zp : Byte) (s : State) : Result := bitwise oraValue (.memory (.indirectY zp)) s

/-! BIT, test bits (R225) -/

def execBitZp (zp : Byte) (s : State) : Result := bitTest (.memory (.zeroPage zp)) s
def execBitAbs (addr : Word) (s : State) : Result := bitTest (.memory (.absolute addr)) s

end Sys2Proof.Machine
end

