-- ==== Sys2Proof/Machine/Control.lean ====
section
/-! DEFINITION. Jumps and branches (spec/44_control.md R250 to R270). -/

namespace Sys2Proof.Machine

/-- "program counter = resolved effective address (unconditional)" (R260). -/
def jump (m : MemOperand) (s : State) : Result :=
  attempt s (effectiveAddress m s) fun target => { s with pc := target }

/-- The branch family, taken when flag `f` has the value `v`; the target is computed only then (R160, R261, R262). -/
def branch (f : Flag) (v : Bool) (rel : Byte) (s : State) : Result :=
  if s.flag f = v then attempt s (branchTarget rel s) fun target => { s with pc := target } else .next s

/-! JMP, jump (R260) -/

def execJmpAbs (target : Word) (s : State) : Result := jump (.absolute target) s
def execJmpInd (ptr : Word) (s : State) : Result := jump (.indirect ptr) s

/-! BCC, branch if carry clear (R263) -/

def execBcc (rel : Byte) (s : State) : Result := branch .c false rel s

/-! BCS, branch if carry set (R264) -/

def execBcs (rel : Byte) (s : State) : Result := branch .c true rel s

/-! BEQ, branch if equal (R265) -/

def execBeq (rel : Byte) (s : State) : Result := branch .z true rel s

/-! BMI, branch if minus (R266) -/

def execBmi (rel : Byte) (s : State) : Result := branch .n true rel s

/-! BNE, branch if not equal (R267) -/

def execBne (rel : Byte) (s : State) : Result := branch .z false rel s

/-! BPL, branch if positive (R268) -/

def execBpl (rel : Byte) (s : State) : Result := branch .n false rel s

/-! BVC, branch if overflow clear (R269) -/

def execBvc (rel : Byte) (s : State) : Result := branch .v false rel s

/-! BVS, branch if overflow set (R270) -/

def execBvs (rel : Byte) (s : State) : Result := branch .v true rel s

end Sys2Proof.Machine
end

