-- ==== Sys2Proof/Machine/IncDec.lean ====
section
/-! DEFINITION. Register increment and decrement (spec/46_unlisted.md R329 to R332, spec/10_state.md R34; general knowledge in
the spec, PRESUMED, log 15). -/

namespace Sys2Proof.Machine

/-- Replace a register by `f` of it, Z and N from the new value. -/
def stepRegister (f : Byte → Byte) (r : Reg) (s : State) : Result :=
  .next ((s.setReg r (f (s.reg r))).setNZ (f (s.reg r)))

/-- INX (R329). -/
def execInx (s : State) : Result := stepRegister incByte .x s

/-- INY (R330). -/
def execIny (s : State) : Result := stepRegister incByte .y s

/-- DEX (R331). -/
def execDex (s : State) : Result := stepRegister decByte .x s

/-- DEY (R332). -/
def execDey (s : State) : Result := stepRegister decByte .y s

end Sys2Proof.Machine
end

