-- ==== Sys2Proof/Machine/LoadStore.lean ====
section
/-! DEFINITION. Loads and stores (spec/42_load_store.md R180 to R187). -/

namespace Sys2Proof.Machine

/-- The load family: "set target register = operand value", Z and N from it (R180). -/
def load (r : Reg) (o : Operand) (s : State) : Result :=
  attempt s (readOperand o s) fun m => (s.setReg r m).setNZ m

/-- The store family: the register's value at the effective address, no flag changes (R184). -/
def store (r : Reg) (m : MemOperand) (s : State) : Result :=
  attempt s (writeOperand m (s.reg r) s) id

/-! LDA, load accumulator (R181) -/

def execLdaImm (imm : Byte) (s : State) : Result := load .a (.immediate imm) s
def execLdaZp (zp : Byte) (s : State) : Result := load .a (.memory (.zeroPage zp)) s
def execLdaZpX (zp : Byte) (s : State) : Result := load .a (.memory (.zeroPageX zp)) s
def execLdaAbs (addr : Word) (s : State) : Result := load .a (.memory (.absolute addr)) s
def execLdaAbsX (addr : Word) (s : State) : Result := load .a (.memory (.absoluteX addr)) s
def execLdaAbsY (addr : Word) (s : State) : Result := load .a (.memory (.absoluteY addr)) s
def execLdaIndX (zp : Byte) (s : State) : Result := load .a (.memory (.indirectX zp)) s
def execLdaIndY (zp : Byte) (s : State) : Result := load .a (.memory (.indirectY zp)) s

/-! LDX, load index X (R182) -/

def execLdxImm (imm : Byte) (s : State) : Result := load .x (.immediate imm) s
def execLdxZp (zp : Byte) (s : State) : Result := load .x (.memory (.zeroPage zp)) s
def execLdxZpY (zp : Byte) (s : State) : Result := load .x (.memory (.zeroPageY zp)) s
def execLdxAbs (addr : Word) (s : State) : Result := load .x (.memory (.absolute addr)) s
def execLdxAbsY (addr : Word) (s : State) : Result := load .x (.memory (.absoluteY addr)) s

/-! LDY, load index Y (R183) -/

def execLdyImm (imm : Byte) (s : State) : Result := load .y (.immediate imm) s
def execLdyZp (zp : Byte) (s : State) : Result := load .y (.memory (.zeroPage zp)) s
def execLdyZpX (zp : Byte) (s : State) : Result := load .y (.memory (.zeroPageX zp)) s
def execLdyAbs (addr : Word) (s : State) : Result := load .y (.memory (.absolute addr)) s
def execLdyAbsX (addr : Word) (s : State) : Result := load .y (.memory (.absoluteX addr)) s

/-! STA, store accumulator (R185) -/

def execStaZp (zp : Byte) (s : State) : Result := store .a (.zeroPage zp) s
def execStaZpX (zp : Byte) (s : State) : Result := store .a (.zeroPageX zp) s
def execStaAbs (addr : Word) (s : State) : Result := store .a (.absolute addr) s
def execStaAbsX (addr : Word) (s : State) : Result := store .a (.absoluteX addr) s
def execStaAbsY (addr : Word) (s : State) : Result := store .a (.absoluteY addr) s
def execStaIndX (zp : Byte) (s : State) : Result := store .a (.indirectX zp) s
def execStaIndY (zp : Byte) (s : State) : Result := store .a (.indirectY zp) s

/-! STX, store index X (R186) -/

def execStxZp (zp : Byte) (s : State) : Result := store .x (.zeroPage zp) s
def execStxZpY (zp : Byte) (s : State) : Result := store .x (.zeroPageY zp) s
def execStxAbs (addr : Word) (s : State) : Result := store .x (.absolute addr) s

/-! STY, store index Y (R187) -/

def execStyZp (zp : Byte) (s : State) : Result := store .y (.zeroPage zp) s
def execStyZpX (zp : Byte) (s : State) : Result := store .y (.zeroPageX zp) s
def execStyAbs (addr : Word) (s : State) : Result := store .y (.absolute addr) s

end Sys2Proof.Machine
end

