-- ==== Sys2Proof/Machine/ReadModifyWrite.lean ====
section
/-! DEFINITION. Shifts, rotates and memory increments and decrements (spec/46_unlisted.md R321 to R327; general knowledge in the
spec, PRESUMED, log 15). -/

namespace Sys2Proof.Machine

/-- The read-modify-write instructions: the operand and P replaced as `f` says (R321). -/
def readModifyWrite (f : Byte → Byte → Byte × Byte) (o : RmwOperand) (s : State) : Result :=
  attempt s (modifyOperand o f s) id

/-! ASL, arithmetic shift left (R322) -/

def execAslAcc (s : State) : Result := readModifyWrite aslOp .accumulator s
def execAslZp (zp : Byte) (s : State) : Result := readModifyWrite aslOp (.memory (.zeroPage zp)) s
def execAslZpX (zp : Byte) (s : State) : Result := readModifyWrite aslOp (.memory (.zeroPageX zp)) s
def execAslAbs (addr : Word) (s : State) : Result := readModifyWrite aslOp (.memory (.absolute addr)) s
def execAslAbsX (addr : Word) (s : State) : Result := readModifyWrite aslOp (.memory (.absoluteX addr)) s

/-! LSR, logical shift right (R323) -/

def execLsrAcc (s : State) : Result := readModifyWrite lsrOp .accumulator s
def execLsrZp (zp : Byte) (s : State) : Result := readModifyWrite lsrOp (.memory (.zeroPage zp)) s
def execLsrZpX (zp : Byte) (s : State) : Result := readModifyWrite lsrOp (.memory (.zeroPageX zp)) s
def execLsrAbs (addr : Word) (s : State) : Result := readModifyWrite lsrOp (.memory (.absolute addr)) s
def execLsrAbsX (addr : Word) (s : State) : Result := readModifyWrite lsrOp (.memory (.absoluteX addr)) s

/-! ROL, rotate left through carry (R324) -/

def execRolAcc (s : State) : Result := readModifyWrite rolOp .accumulator s
def execRolZp (zp : Byte) (s : State) : Result := readModifyWrite rolOp (.memory (.zeroPage zp)) s
def execRolZpX (zp : Byte) (s : State) : Result := readModifyWrite rolOp (.memory (.zeroPageX zp)) s
def execRolAbs (addr : Word) (s : State) : Result := readModifyWrite rolOp (.memory (.absolute addr)) s
def execRolAbsX (addr : Word) (s : State) : Result := readModifyWrite rolOp (.memory (.absoluteX addr)) s

/-! ROR, rotate right through carry (R325) -/

def execRorAcc (s : State) : Result := readModifyWrite rorOp .accumulator s
def execRorZp (zp : Byte) (s : State) : Result := readModifyWrite rorOp (.memory (.zeroPage zp)) s
def execRorZpX (zp : Byte) (s : State) : Result := readModifyWrite rorOp (.memory (.zeroPageX zp)) s
def execRorAbs (addr : Word) (s : State) : Result := readModifyWrite rorOp (.memory (.absolute addr)) s
def execRorAbsX (addr : Word) (s : State) : Result := readModifyWrite rorOp (.memory (.absoluteX addr)) s

/-! INC, increment memory (R326) -/

def execIncZp (zp : Byte) (s : State) : Result := readModifyWrite incOp (.memory (.zeroPage zp)) s
def execIncZpX (zp : Byte) (s : State) : Result := readModifyWrite incOp (.memory (.zeroPageX zp)) s
def execIncAbs (addr : Word) (s : State) : Result := readModifyWrite incOp (.memory (.absolute addr)) s
def execIncAbsX (addr : Word) (s : State) : Result := readModifyWrite incOp (.memory (.absoluteX addr)) s

/-! DEC, decrement memory (R327) -/

def execDecZp (zp : Byte) (s : State) : Result := readModifyWrite decOp (.memory (.zeroPage zp)) s
def execDecZpX (zp : Byte) (s : State) : Result := readModifyWrite decOp (.memory (.zeroPageX zp)) s
def execDecAbs (addr : Word) (s : State) : Result := readModifyWrite decOp (.memory (.absolute addr)) s
def execDecAbsX (addr : Word) (s : State) : Result := readModifyWrite decOp (.memory (.absoluteX addr)) s

end Sys2Proof.Machine
end

