-- ==== Sys2Proof/Machine/Stack.lean ====
section
/-! DEFINITION. Pushes and pulls (spec/45_transfer_stack_flags.md R290 to R294). -/

namespace Sys2Proof.Machine

/-- PHA (R291). -/
def execPha (s : State) : Result := .next (s.push s.a)

/-- PHP pushes P exactly as it stands (R292). -/
def execPhp (s : State) : Result := .next (s.push s.p)

/-- PLA: the pulled byte to A, Z and N from it (R293). -/
def execPla (s : State) : Result := .next ((s.popped.setReg .a s.top).setNZ s.top)

/-- PLP: "pulling status overwrites the full status byte verbatim" (R294). -/
def execPlp (s : State) : Result := .next { s.popped with p := s.top }

end Sys2Proof.Machine
end

