-- ==== Sys2Proof/Machine/Status.lean ====
section
/-! DEFINITION. Flag set and clear: "unconditionally set or clear one named flag" (spec/45_transfer_stack_flags.md R295 to
R302). -/

namespace Sys2Proof.Machine

/-- CLC (R296). -/
def execClc (s : State) : Result := .next (s.setFlag .c false)

/-- SEC (R297). -/
def execSec (s : State) : Result := .next (s.setFlag .c true)

/-- CLI (R298). -/
def execCli (s : State) : Result := .next (s.setFlag .i false)

/-- SEI (R299). -/
def execSei (s : State) : Result := .next (s.setFlag .i true)

/-- CLD (R300). -/
def execCld (s : State) : Result := .next (s.setFlag .d false)

/-- SED (R301). -/
def execSed (s : State) : Result := .next (s.setFlag .d true)

/-- CLV (R302). -/
def execClv (s : State) : Result := .next (s.setFlag .v false)

end Sys2Proof.Machine
end

