-- ==== Sys2Proof/Machine/Subroutine.lean ====
section
/-! DEFINITION. Subroutine call and return, return from interrupt (spec/46_unlisted.md R334 to R336; general knowledge in the
spec, PRESUMED, log 15), on the stack of spec/45_transfer_stack_flags.md R290. -/

namespace Sys2Proof.Machine

/-- JSR pushes the address of its own last byte, high byte first, and jumps (R334). -/
def execJsr (target : Word) (s : State) : Result :=
  let back := decWord s.pc
  .next { ((s.push (hiByte back)).push (loByte back)) with pc := target }

/-- RTS pulls an address, low byte first, and goes to the byte after it (R335). -/
def execRts (s : State) : Result :=
  let s₁ := s.popped
  .next { s₁.popped with pc := incWord (wordOf s.top s₁.top) }

/-- RTI pulls P verbatim, then PC low byte first, with no +1 (R336). -/
def execRti (s : State) : Result := .next s.returnFromInterrupt

end Sys2Proof.Machine
end

