-- ==== Sys2Proof/Machine/System.lean ====
section
/-! DEFINITION. Break and no-op (spec/45_transfer_stack_flags.md R305, R308). -/

namespace Sys2Proof.Machine

/-- BRK: "transitions engine to Halted; no memory/register effect beyond that" (R305, R128, C6). -/
def execBrk (s : State) : Result := .next { s with run := .halted }

/-- NOP: "no effect" (R308). -/
def execNop (s : State) : Result := .next s

end Sys2Proof.Machine
end

