-- ==== Sys2Proof/Machine/Transfer.lean ====
section
/-! DEFINITION. Register transfers (spec/45_transfer_stack_flags.md R280 to R286). -/

namespace Sys2Proof.Machine

/-- The transfer family: "target = source value", Z and N from it, TXS and TSX included (R280, C7, D7). -/
def transfer (source target : Reg) (s : State) : Result :=
  .next ((s.setReg target (s.reg source)).setNZ (s.reg source))

/-- TAX (R281). -/
def execTax (s : State) : Result := transfer .a .x s

/-- TAY (R282). -/
def execTay (s : State) : Result := transfer .a .y s

/-- TXA (R283). -/
def execTxa (s : State) : Result := transfer .x .a s

/-- TYA (R284). -/
def execTya (s : State) : Result := transfer .y .a s

/-- TXS sets Z and N, unlike a real 6502 (R285). -/
def execTxs (s : State) : Result := transfer .x .sp s

/-- TSX (R286). -/
def execTsx (s : State) : Result := transfer .sp .x s

end Sys2Proof.Machine
end

