-- ==== Sys2Proof/Machine/Fetch.lean ====
section
/-! DEFINITION. What a step does around `Execute`: fetch and decode, the refusal of an unlisted byte, and the outputs at the end
(spec/40_engine.md R122 to R127, R132, R133). Reads have no side effect (spec/20_memory.md R61), so the three bytes at PC are
read at once and the decoder takes those the instruction has (log 12). -/

namespace Sys2Proof.Machine

/-- The encoding byte: the byte at PC (R122). -/
def State.opcodeAtPc (s : State) : Byte := s.byteAt s.pc

/-- The bytes at PC, in increasing address order modulo 65536, as many as the longest instruction takes (R64, R90, R123). -/
def State.fetchBytes (s : State) : List Byte :=
  [s.byteAt s.pc, s.byteAt (s.pc + 1), s.byteAt (s.pc + 2)]

/-- What the fetch gives the step: the instruction to execute, the bytes PC moves past, and the events before it. -/
structure Fetched where
  instr  : Instr
  size   : Nat
  events : List Event
deriving DecidableEq, Repr

/-- Fetch and decode. On a decode failure the descriptor of NOP is substituted: size 1, no operand fetch, and the diagnostic
`UnknownEncoding(b, start)` is emitted (R125, D4, D23). -/
def State.fetch (s : State) : Fetched :=
  match decode s.fetchBytes with
  | .ok (i, _) => { instr := i, size := i.size s.params.brkSize, events := [] }
  | .error _ => { instr := .nop, size := 1, events := [.unknownEncoding s.opcodeAtPc s.pc] }

/-- No step is enabled while FAULT or REFUSED is set (R122, R126, spec/60_exceptions.md R403). -/
def State.enabled (s : State) : Bool := s.fault.isNone && s.refused.isNone

/-- The byte at PC is unlisted and UNLISTED_FAMILIES = refuse (R122, R126). -/
def State.refusesFetch (s : State) : Bool :=
  classOf s.opcodeAtPc == .unlisted && s.params.unlisted == .refuse

/-- The outputs of a transition that returns no cycle cost and emits `es`. -/
def State.emit (es : List Event) (s : State) : State := { s with out := { cycles := none, events := es } }

/-- REFUSED <- b, no other state changes, no event (R126). -/
def State.refuse (s : State) : State := { s with refused := some s.opcodeAtPc }.emit []

/-- The state after the operand fetch: PC past the instruction, modulo 65536 (R36, R122, R127). -/
def State.enter (s : State) (f : Fetched) : State :=
  { s with pc := s.pc + BitVec.ofNat 16 f.size }.emit f.events

/-- The end of a step: `InstructionExecuted` is emitted and the cycle cost returned (R122, R132), unless the step faulted
(spec/60_exceptions.md R402, D28). -/
def State.leave (s : State) (f : Fetched) : State :=
  match s.fault with
  | some _ => s
  | none =>
    { s with out := { cycles := some (cycleCost s.params f.instr), events := s.out.events ++ [.instructionExecuted] } }

/-- The memory with bytes stored from an address on, modulo 65536. -/
def storeBytes : List Byte → Word → Memory → Memory
  | [], _, m => m
  | b :: bs, a, m => storeBytes bs (a + 1) (m.write a.toNat b)

/-- The state whose next step fetches the table word `w` of `nbits` bits at PC: its bytes stored there, and the marks that would
keep a step from running cleared (log 19). -/
def State.placeAtPc (s : State) (nbits w : Nat) : State :=
  { s with mem := storeBytes (tableBytes nbits w) s.pc s.mem, fault := none, refused := none }

end Sys2Proof.Machine
end

