-- ==== Sys2Proof/Machine/Step.lean ====
section
/-! DEFINITION. One step of the engine, the spec's `Step` (spec/40_engine.md R122, R134), whatever RUN holds. The batch run and
the host's other operations are in Machine/HostOps.lean. -/

namespace Sys2Proof.Machine

/-- `Step()` (R122). With FAULT or REFUSED set no step is enabled (R403, R126): the machine stops. Otherwise an unlisted byte
under UNLISTED_FAMILIES = refuse sets REFUSED (R126), and any other byte is fetched, executed and left. -/
def step (s : State) : Host.Outcome State Fault Refusal :=
  match s.fault, s.refused with
  | some f, _ => .fault f
  | none, some b => .refused (.unlistedByte b)
  | none, none =>
    if s.refusesFetch then .next s.refuse
    else
      match exec s.fetch.instr (s.enter s.fetch) with
      | .next t => .next (t.leave s.fetch)
      | .fault f => .fault f
      | .refused r => .refused r

/-- The state whose next step runs the instruction of the table word `w` of `nbits` bits (log 19). -/
def State.withFetchWord (s : State) (nbits w : Nat) : State := s.placeAtPc nbits w

end Sys2Proof.Machine
end

