-- ==== Sys2Proof/Machine/HostOps.lean ====
section
/-! DEFINITION. The host's operations on the block, each a transition between two steps (spec/40_engine.md R121, R128 to R138,
spec/20_memory.md R71 to R73, spec/70_reset_and_hazards.md R440 to R445). A host that acts during a step is not modelled (R136,
log 20). Each leaves in `out` the events it emits. -/

namespace Sys2Proof.Machine

/-- `Reset`, with the choice INIT_AXY of this reset (R441). The parameters stay (R442). -/
def hostReset (a x y : Byte) (s : State) : State := State.resetWith s.params a x y

/-- `Start`: RUN <- Running, and nothing else: FAULT and REFUSED stay (R131). -/
def hostStart (s : State) : State := { s with run := .running }.emit []

/-- `Stop`: RUN <- Halted (R129). -/
def hostStop (s : State) : State := { s with run := .halted }.emit []

/-- `Load(bytes)`: the bytes from address 0 on, the other cells and every register unchanged; a sequence longer than the memory
is not admitted (R71, R445, D25). -/
def hostLoad (bytes : List Byte) (s : State) : Option State :=
  if imageWf bytes then some ({ s with mem := storeBytes bytes 0 s.mem }.emit [.memoryChanged]) else none

/-- `Poke(addr, v)`: the host's write of one cell (R73). -/
def hostPoke (addr : Word) (v : Byte) (s : State) : State := { s with mem := s.mem.write addr.toNat v }.emit []

/-- `Peek(addr)`: the host's read of one cell; emits MemoryAccess and changes nothing (R73). -/
def hostPeek (addr : Word) (s : State) : Byte × State := (s.byteAt addr, s.emit [.memoryAccess])

/-- `Dump`: the 65,536 cells in address order (R72). DESIGN CHOICE (log 21, unsafe): it emits no event. R72 names none, while R73 has
"a host read" emit MemoryAccess. -/
def hostDump (s : State) : List Byte := (List.range 65536).map s.mem.read

/-- What `ReadRegs` returns (R121). -/
structure RegsView where
  pc    : Word
  a     : Byte
  x     : Byte
  y     : Byte
  sp    : Byte
  p     : Byte
  run   : RunState
  fault : Option Fault
deriving DecidableEq, Repr

/-- `ReadRegs` (R121, spec/10_state.md R54). -/
def hostReadRegs (s : State) : RegsView :=
  { pc := s.pc, a := s.a, x := s.x, y := s.y, sp := s.sp, p := s.p, run := s.run, fault := s.fault }

/-- A change of the host's own settings, which the block does not read: only the event (R46, R133). -/
def hostSettings (s : State) : State := s.emit [.settingsChanged]

/-- The actions of the host that change the block between steps (R136). `Step` is `step`, `Run` is `batchRun` or `hostedRun`; `Dump` and
`ReadRegs` change nothing. -/
inductive HostAction where
  | reset (a x y : Byte)
  | start
  | stop
  | load (bytes : List Byte)
  | peek (addr : Word)
  | poke (addr : Word) (v : Byte)
  | settings
deriving DecidableEq, Repr

/-- The state after a host action, none where the host may not do it (R71, R136). -/
def hostAct (h : HostAction) (s : State) : Option State :=
  match h with
  | .reset a x y => some (hostReset a x y s)
  | .start => some (hostStart s)
  | .stop => some (hostStop s)
  | .load bytes => hostLoad bytes s
  | .peek addr => some (hostPeek addr s).2
  | .poke addr v => some (hostPoke addr v s)
  | .settings => some (hostSettings s)

/-- The batch run goes on: RUN = Running and neither mark set (R135). -/
def State.runs (s : State) : Bool := s.run == .running && s.enabled

/-- One turn of the batch run's loop: where RUN = Running and neither mark is set, the step, and `next` goes on from its state;
elsewhere the run returns with the state as it is (R135). -/
def State.runTurn (s : State) (next : State → Option State) : Option State :=
  if s.runs then
    match step s with
    | .next t => next t
    | .fault _ => none
    | .refused _ => none
  else some s

/-- `Run()` with no action of the host during it: "loop single-step while state is Running" (R135), with at most `fuel` steps: the
state in which the loop ends, or none if it has not ended by then (a run that never halts has no end, R138; log 9). -/
def batchRun : Nat → State → Option State
  | 0, s => s.runTurn fun _ => none
  | n + 1, s => s.runTurn (batchRun n)

/-- The host's actions in order, none if it may not do one of them. -/
def hostActs : List HostAction → State → Option State
  | [], s => some s
  | h :: hs, s => (hostAct h s).bind (hostActs hs)

/-- `Run()` with the host acting between its steps (R136, R137): the k-th entry of the schedule lists what the host does before
the loop's k-th test of RUN, so `[[], [], [.stop]]` is a `Stop` issued during the second step. That step completes, and the test
after it ends the run. Past the schedule the run goes on alone, for at most `fuel` steps; entries past the run's end are not
performed. -/
def hostedRun : List (List HostAction) → Nat → State → Option State
  | [], fuel, s => batchRun fuel s
  | hs :: rest, fuel, s => (hostActs hs s).bind fun t => t.runTurn (hostedRun rest fuel)

/-- A run has ended normally (R138). -/
def State.ended (s : State) : Bool := s.run == .halted && s.enabled

end Sys2Proof.Machine
end

