-- ==== Sys2Proof/Safety.lean ====
section
/-! DEFINITION. What counts as a good state and a reachable one. -/

namespace Sys2Proof.Machine

/-- A safe state: neither a fault nor a refusal has stopped the machine (spec/60_exceptions.md R403, spec/40_engine.md R126). -/
def State.safe (s : State) : Prop := s.fault = none ∧ s.refused = none

/-- The invariant of the model: memory in canonical form, and not both marks set (a step is enabled only with neither, R122). -/
structure State.Inv (s : State) : Prop where
  memory : s.mem.wf
  marks  : s.fault = none ∨ s.refused = none

/-- One move of the system: a step of the engine or an action of the host between steps (R136). -/
inductive Moves : State → State → Prop where
  | step (s t : State) (h : Machine.step s = .next t) : Moves s t
  | host (a : HostAction) (s t : State) (h : hostAct a s = some t) : Moves s t

/-- The states reachable from power-on, that is, from a reset with any parameters and any INIT_AXY (R443). -/
inductive Reachable (p : Params) : State → Prop where
  | powerOn (a x y : Byte) : Reachable p (State.resetWith p a x y)
  | move (s t : State) (hs : Reachable p s) (h : Moves s t) : Reachable p t

end Sys2Proof.Machine
end

