-- ==== Sys2Proof/Certificates/Slice0/Obligations.lean ====
section
/-! DEFINITION. The statements for the provers. Where a statement tells families of instructions apart it uses a table that
gives, for each constructor it covers, the operands of the constructor as the constructor's rule names them. -/

namespace Sys2Proof.Machine

/-- What a meaning leaves alone: every register but `regs`, every flag but `flags`, every byte of memory but those at the
addresses `cells`, and RUN, FAULT, REFUSED, the outputs and the parameters. The program counter is stated apart. -/
structure Unchanged (s t : State) (regs : List Reg) (flags : List Flag) (cells : List Nat) : Prop where
  regs    : ∀ q, q ∉ regs → t.reg q = s.reg q
  flags   : ∀ f, f ∉ flags → t.flag f = s.flag f
  cells   : ∀ addr, addr ∉ cells → t.mem.read addr = s.mem.read addr
  run     : t.run = s.run
  fault   : t.fault = s.fault
  refused : t.refused = s.refused
  out     : t.out = s.out
  params  : t.params = s.params

/-- Z and N of `SetNZ(v)` (R15). -/
structure ZeroNegative (t : State) (v : Byte) : Prop where
  zero     : t.flag .z = decide (v = 0)
  negative : t.flag .n = v.getLsbD 7

/-! ## Tables of the instruction families -/

/-- The 18 loads: target register and operand (R181 to R183). -/
def loadForm : Instr → Option (Reg × Operand)
  | .ldaImm imm => some (.a, .immediate imm)
  | .ldaZp zp => some (.a, .memory (.zeroPage zp))
  | .ldaZpX zp => some (.a, .memory (.zeroPageX zp))
  | .ldaAbs addr => some (.a, .memory (.absolute addr))
  | .ldaAbsX addr => some (.a, .memory (.absoluteX addr))
  | .ldaAbsY addr => some (.a, .memory (.absoluteY addr))
  | .ldaIndX zp => some (.a, .memory (.indirectX zp))
  | .ldaIndY zp => some (.a, .memory (.indirectY zp))
  | .ldxImm imm => some (.x, .immediate imm)
  | .ldxZp zp => some (.x, .memory (.zeroPage zp))
  | .ldxZpY zp => some (.x, .memory (.zeroPageY zp))
  | .ldxAbs addr => some (.x, .memory (.absolute addr))
  | .ldxAbsY addr => some (.x, .memory (.absoluteY addr))
  | .ldyImm imm => some (.y, .immediate imm)
  | .ldyZp zp => some (.y, .memory (.zeroPage zp))
  | .ldyZpX zp => some (.y, .memory (.zeroPageX zp))
  | .ldyAbs addr => some (.y, .memory (.absolute addr))
  | .ldyAbsX addr => some (.y, .memory (.absoluteX addr))
  | _ => none

/-- The 13 stores: stored register and addressed operand (R185 to R187). -/
def storeForm : Instr → Option (Reg × MemOperand)
  | .staZp zp => some (.a, .zeroPage zp)
  | .staZpX zp => some (.a, .zeroPageX zp)
  | .staAbs addr => some (.a, .absolute addr)
  | .staAbsX addr => some (.a, .absoluteX addr)
  | .staAbsY addr => some (.a, .absoluteY addr)
  | .staIndX zp => some (.a, .indirectX zp)
  | .staIndY zp => some (.a, .indirectY zp)
  | .stxZp zp => some (.x, .zeroPage zp)
  | .stxZpY zp => some (.x, .zeroPageY zp)
  | .stxAbs addr => some (.x, .absolute addr)
  | .styZp zp => some (.y, .zeroPage zp)
  | .styZpX zp => some (.y, .zeroPageX zp)
  | .styAbs addr => some (.y, .absolute addr)
  | _ => none

/-- The 8 forms of ADC (R210). -/
def adcForm : Instr → Option Operand
  | .adcImm imm => some (.immediate imm)
  | .adcZp zp => some (.memory (.zeroPage zp))
  | .adcZpX zp => some (.memory (.zeroPageX zp))
  | .adcAbs addr => some (.memory (.absolute addr))
  | .adcAbsX addr => some (.memory (.absoluteX addr))
  | .adcAbsY addr => some (.memory (.absoluteY addr))
  | .adcIndX zp => some (.memory (.indirectX zp))
  | .adcIndY zp => some (.memory (.indirectY zp))
  | _ => none

/-- The 8 forms of SBC (R212). -/
def sbcForm : Instr → Option Operand
  | .sbcImm imm => some (.immediate imm)
  | .sbcZp zp => some (.memory (.zeroPage zp))
  | .sbcZpX zp => some (.memory (.zeroPageX zp))
  | .sbcAbs addr => some (.memory (.absolute addr))
  | .sbcAbsX addr => some (.memory (.absoluteX addr))
  | .sbcAbsY addr => some (.memory (.absoluteY addr))
  | .sbcIndX zp => some (.memory (.indirectX zp))
  | .sbcIndY zp => some (.memory (.indirectY zp))
  | _ => none

/-- The 14 compares: compared register and operand (R215 to R217). -/
def compareForm : Instr → Option (Reg × Operand)
  | .cmpImm imm => some (.a, .immediate imm)
  | .cmpZp zp => some (.a, .memory (.zeroPage zp))
  | .cmpZpX zp => some (.a, .memory (.zeroPageX zp))
  | .cmpAbs addr => some (.a, .memory (.absolute addr))
  | .cmpAbsX addr => some (.a, .memory (.absoluteX addr))
  | .cmpAbsY addr => some (.a, .memory (.absoluteY addr))
  | .cmpIndX zp => some (.a, .memory (.indirectX zp))
  | .cmpIndY zp => some (.a, .memory (.indirectY zp))
  | .cpxImm imm => some (.x, .immediate imm)
  | .cpxZp zp => some (.x, .memory (.zeroPage zp))
  | .cpxAbs addr => some (.x, .memory (.absolute addr))
  | .cpyImm imm => some (.y, .immediate imm)
  | .cpyZp zp => some (.y, .memory (.zeroPage zp))
  | .cpyAbs addr => some (.y, .memory (.absolute addr))
  | _ => none

/-- The 24 bitwise operations of A with an operand (R220 to R222). -/
def bitwiseForm : Instr → Option ((Byte → Byte → Byte) × Operand)
  | .andImm imm => some (fun a m => a &&& m, .immediate imm)
  | .andZp zp => some (fun a m => a &&& m, .memory (.zeroPage zp))
  | .andZpX zp => some (fun a m => a &&& m, .memory (.zeroPageX zp))
  | .andAbs addr => some (fun a m => a &&& m, .memory (.absolute addr))
  | .andAbsX addr => some (fun a m => a &&& m, .memory (.absoluteX addr))
  | .andAbsY addr => some (fun a m => a &&& m, .memory (.absoluteY addr))
  | .andIndX zp => some (fun a m => a &&& m, .memory (.indirectX zp))
  | .andIndY zp => some (fun a m => a &&& m, .memory (.indirectY zp))
  | .eorImm imm => some (fun a m => a ^^^ m, .immediate imm)
  | .eorZp zp => some (fun a m => a ^^^ m, .memory (.zeroPage zp))
  | .eorZpX zp => some (fun a m => a ^^^ m, .memory (.zeroPageX zp))
  | .eorAbs addr => some (fun a m => a ^^^ m, .memory (.absolute addr))
  | .eorAbsX addr => some (fun a m => a ^^^ m, .memory (.absoluteX addr))
  | .eorAbsY addr => some (fun a m => a ^^^ m, .memory (.absoluteY addr))
  | .eorIndX zp => some (fun a m => a ^^^ m, .memory (.indirectX zp))
  | .eorIndY zp => some (fun a m => a ^^^ m, .memory (.indirectY zp))
  | .oraImm imm => some (fun a m => a ||| m, .immediate imm)
  | .oraZp zp => some (fun a m => a ||| m, .memory (.zeroPage zp))
  | .oraZpX zp => some (fun a m => a ||| m, .memory (.zeroPageX zp))
  | .oraAbs addr => some (fun a m => a ||| m, .memory (.absolute addr))
  | .oraAbsX addr => some (fun a m => a ||| m, .memory (.absoluteX addr))
  | .oraAbsY addr => some (fun a m => a ||| m, .memory (.absoluteY addr))
  | .oraIndX zp => some (fun a m => a ||| m, .memory (.indirectX zp))
  | .oraIndY zp => some (fun a m => a ||| m, .memory (.indirectY zp))
  | _ => none

/-- The 2 forms of BIT (R225). -/
def bitForm : Instr → Option Operand
  | .bitZp zp => some (.memory (.zeroPage zp))
  | .bitAbs addr => some (.memory (.absolute addr))
  | _ => none

/-- The 8 branches: the flag tested, the value on which the branch is taken, the offset (R262). -/
def branchForm : Instr → Option (Flag × Bool × Byte)
  | .bcc rel => some (.c, false, rel)
  | .bcs rel => some (.c, true, rel)
  | .beq rel => some (.z, true, rel)
  | .bmi rel => some (.n, true, rel)
  | .bne rel => some (.z, false, rel)
  | .bpl rel => some (.n, false, rel)
  | .bvc rel => some (.v, false, rel)
  | .bvs rel => some (.v, true, rel)
  | _ => none

/-- The 6 transfers: source and target (R281 to R286). -/
def transferForm : Instr → Option (Reg × Reg)
  | .tax => some (.a, .x)
  | .tay => some (.a, .y)
  | .txa => some (.x, .a)
  | .tya => some (.y, .a)
  | .txs => some (.x, .sp)
  | .tsx => some (.sp, .x)
  | _ => none

/-- The 7 flag instructions: the flag and the value written (R296 to R302). -/
def flagForm : Instr → Option (Flag × Bool)
  | .clc => some (.c, false)
  | .sec => some (.c, true)
  | .cli => some (.i, false)
  | .sei => some (.i, true)
  | .cld => some (.d, false)
  | .sed => some (.d, true)
  | .clv => some (.v, false)
  | _ => none

/-- The shifts and rotates. -/
inductive Shift where
  | asl
  | lsr
  | rol
  | ror
deriving DecidableEq, Repr

/-- The shifted value of `v` with carry-in `c` (R322 to R325). -/
def Shift.value (k : Shift) (v c : Nat) : Nat :=
  match k with
  | .asl => v * 2 % 256
  | .lsr => v / 2
  | .rol => (v * 2 + c) % 256
  | .ror => v / 2 + 128 * c

/-- The bit of the old value that becomes the carry (R322 to R325). -/
def Shift.carryBit : Shift → Nat
  | .asl => 7
  | .lsr => 0
  | .rol => 7
  | .ror => 0

/-- The 20 shifts and rotates (R322 to R325). -/
def shiftForm : Instr → Option (Shift × RmwOperand)
  | .aslAcc => some (.asl, .accumulator)
  | .lsrAcc => some (.lsr, .accumulator)
  | .rolAcc => some (.rol, .accumulator)
  | .rorAcc => some (.ror, .accumulator)
  | .aslZp zp => some (.asl, .memory (.zeroPage zp))
  | .aslZpX zp => some (.asl, .memory (.zeroPageX zp))
  | .aslAbs addr => some (.asl, .memory (.absolute addr))
  | .aslAbsX addr => some (.asl, .memory (.absoluteX addr))
  | .lsrZp zp => some (.lsr, .memory (.zeroPage zp))
  | .lsrZpX zp => some (.lsr, .memory (.zeroPageX zp))
  | .lsrAbs addr => some (.lsr, .memory (.absolute addr))
  | .lsrAbsX addr => some (.lsr, .memory (.absoluteX addr))
  | .rolZp zp => some (.rol, .memory (.zeroPage zp))
  | .rolZpX zp => some (.rol, .memory (.zeroPageX zp))
  | .rolAbs addr => some (.rol, .memory (.absolute addr))
  | .rolAbsX addr => some (.rol, .memory (.absoluteX addr))
  | .rorZp zp => some (.ror, .memory (.zeroPage zp))
  | .rorZpX zp => some (.ror, .memory (.zeroPageX zp))
  | .rorAbs addr => some (.ror, .memory (.absolute addr))
  | .rorAbsX addr => some (.ror, .memory (.absoluteX addr))
  | _ => none

/-- The 8 memory increments (+1) and decrements (-1) (R326, R327). -/
def incDecForm : Instr → Option (Int × MemOperand)
  | .incZp zp => some (1, .zeroPage zp)
  | .incZpX zp => some (1, .zeroPageX zp)
  | .incAbs addr => some (1, .absolute addr)
  | .incAbsX addr => some (1, .absoluteX addr)
  | .decZp zp => some (-1, .zeroPage zp)
  | .decZpX zp => some (-1, .zeroPageX zp)
  | .decAbs addr => some (-1, .absolute addr)
  | .decAbsX addr => some (-1, .absoluteX addr)
  | _ => none

/-- The 4 register increments (+1) and decrements (-1) (R329 to R332). -/
def regIncDecForm : Instr → Option (Int × Reg)
  | .inx => some (1, .x)
  | .iny => some (1, .y)
  | .dex => some (-1, .x)
  | .dey => some (-1, .y)
  | _ => none

/-- The memory operand of every instruction that resolves one (R163): all but the implied, immediate and relative forms, JMP
ABSOLUTE and JSR, whose word is the target itself. -/
def memOperand : Instr → Option MemOperand
  | .ldaZp zp => some (.zeroPage zp)
  | .ldaZpX zp => some (.zeroPageX zp)
  | .ldaAbs addr => some (.absolute addr)
  | .ldaAbsX addr => some (.absoluteX addr)
  | .ldaAbsY addr => some (.absoluteY addr)
  | .ldaIndX zp => some (.indirectX zp)
  | .ldaIndY zp => some (.indirectY zp)
  | .ldxZp zp => some (.zeroPage zp)
  | .ldxZpY zp => some (.zeroPageY zp)
  | .ldxAbs addr => some (.absolute addr)
  | .ldxAbsY addr => some (.absoluteY addr)
  | .ldyZp zp => some (.zeroPage zp)
  | .ldyZpX zp => some (.zeroPageX zp)
  | .ldyAbs addr => some (.absolute addr)
  | .ldyAbsX addr => some (.absoluteX addr)
  | .staZp zp => some (.zeroPage zp)
  | .staZpX zp => some (.zeroPageX zp)
  | .staAbs addr => some (.absolute addr)
  | .staAbsX addr => some (.absoluteX addr)
  | .staAbsY addr => some (.absoluteY addr)
  | .staIndX zp => some (.indirectX zp)
  | .staIndY zp => some (.indirectY zp)
  | .stxZp zp => some (.zeroPage zp)
  | .stxZpY zp => some (.zeroPageY zp)
  | .stxAbs addr => some (.absolute addr)
  | .styZp zp => some (.zeroPage zp)
  | .styZpX zp => some (.zeroPageX zp)
  | .styAbs addr => some (.absolute addr)
  | .adcZp zp => some (.zeroPage zp)
  | .adcZpX zp => some (.zeroPageX zp)
  | .adcAbs addr => some (.absolute addr)
  | .adcAbsX addr => some (.absoluteX addr)
  | .adcAbsY addr => some (.absoluteY addr)
  | .adcIndX zp => some (.indirectX zp)
  | .adcIndY zp => some (.indirectY zp)
  | .sbcZp zp => some (.zeroPage zp)
  | .sbcZpX zp => some (.zeroPageX zp)
  | .sbcAbs addr => some (.absolute addr)
  | .sbcAbsX addr => some (.absoluteX addr)
  | .sbcAbsY addr => some (.absoluteY addr)
  | .sbcIndX zp => some (.indirectX zp)
  | .sbcIndY zp => some (.indirectY zp)
  | .cmpZp zp => some (.zeroPage zp)
  | .cmpZpX zp => some (.zeroPageX zp)
  | .cmpAbs addr => some (.absolute addr)
  | .cmpAbsX addr => some (.absoluteX addr)
  | .cmpAbsY addr => some (.absoluteY addr)
  | .cmpIndX zp => some (.indirectX zp)
  | .cmpIndY zp => some (.indirectY zp)
  | .cpxZp zp => some (.zeroPage zp)
  | .cpxAbs addr => some (.absolute addr)
  | .cpyZp zp => some (.zeroPage zp)
  | .cpyAbs addr => some (.absolute addr)
  | .andZp zp => some (.zeroPage zp)
  | .andZpX zp => some (.zeroPageX zp)
  | .andAbs addr => some (.absolute addr)
  | .andAbsX addr => some (.absoluteX addr)
  | .andAbsY addr => some (.absoluteY addr)
  | .andIndX zp => some (.indirectX zp)
  | .andIndY zp => some (.indirectY zp)
  | .eorZp zp => some (.zeroPage zp)
  | .eorZpX zp => some (.zeroPageX zp)
  | .eorAbs addr => some (.absolute addr)
  | .eorAbsX addr => some (.absoluteX addr)
  | .eorAbsY addr => some (.absoluteY addr)
  | .eorIndX zp => some (.indirectX zp)
  | .eorIndY zp => some (.indirectY zp)
  | .oraZp zp => some (.zeroPage zp)
  | .oraZpX zp => some (.zeroPageX zp)
  | .oraAbs addr => some (.absolute addr)
  | .oraAbsX addr => some (.absoluteX addr)
  | .oraAbsY addr => some (.absoluteY addr)
  | .oraIndX zp => some (.indirectX zp)
  | .oraIndY zp => some (.indirectY zp)
  | .bitZp zp => some (.zeroPage zp)
  | .bitAbs addr => some (.absolute addr)
  | .jmpInd ptr => some (.indirect ptr)
  | .aslZp zp => some (.zeroPage zp)
  | .aslZpX zp => some (.zeroPageX zp)
  | .aslAbs addr => some (.absolute addr)
  | .aslAbsX addr => some (.absoluteX addr)
  | .lsrZp zp => some (.zeroPage zp)
  | .lsrZpX zp => some (.zeroPageX zp)
  | .lsrAbs addr => some (.absolute addr)
  | .lsrAbsX addr => some (.absoluteX addr)
  | .rolZp zp => some (.zeroPage zp)
  | .rolZpX zp => some (.zeroPageX zp)
  | .rolAbs addr => some (.absolute addr)
  | .rolAbsX addr => some (.absoluteX addr)
  | .rorZp zp => some (.zeroPage zp)
  | .rorZpX zp => some (.zeroPageX zp)
  | .rorAbs addr => some (.absolute addr)
  | .rorAbsX addr => some (.absoluteX addr)
  | .incZp zp => some (.zeroPage zp)
  | .incZpX zp => some (.zeroPageX zp)
  | .incAbs addr => some (.absolute addr)
  | .incAbsX addr => some (.absoluteX addr)
  | .decZp zp => some (.zeroPage zp)
  | .decZpX zp => some (.zeroPageX zp)
  | .decAbs addr => some (.absolute addr)
  | .decAbsX addr => some (.absoluteX addr)
  | _ => none

end Sys2Proof.Machine

open Sys2Proof Sys2Proof.Machine

/-! ## Encoding -/

/-- No bit of an encoding is dropped: every instruction, with every operand, is decoded from its own bytes (R94: "opcode_for
(encoding_for(op)) = op"; R92). -/
def Obligations.DecodeOfEncodeIsTheInstruction : Prop :=
  ∀ (i : Instr) (rest : List Byte), decode (encode i ++ rest) = .ok (i, rest)

/-- Every byte sequence the decoder accepts begins with the encoding of the instruction it reads, and the bytes after it are
handed on (R90 to R92). -/
def Obligations.DecodedBytesAreTheEncoding : Prop :=
  ∀ (bytes : List Byte) (i : Instr) (rest : List Byte), decode bytes = .ok (i, rest) → bytes = encode i ++ rest

/-- R94: the opcode table is a bijection between the defined bytes and the OpCodes, and an undefined byte has no OpCode. -/
def Obligations.OpCodesAndDefinedBytesCorrespond : Prop :=
  (∀ i j : Instr, i.opcodeByte = j.opcodeByte ↔ i.opCode = j.opCode) ∧
  (∀ i : Instr, ∃ f, formOf i.opcodeByte = some f ∧ f.sample.opCode = i.opCode) ∧
  (∀ (b : Byte) (f : Form), formOf b = some f → f.sample.opcodeByte = b) ∧
  (∀ b : Byte, formOf b = none → ∀ i : Instr, i.opcodeByte ≠ b)

/-- R96: of the 256 bytes 116 are core, 35 unlisted and 105 undefined, the unlisted ones are those of R100, and decoding fails
exactly on an undefined byte (given the two operand bytes the longest instruction takes). -/
def Obligations.DecodeClassesOfAllBytes : Prop :=
  let all := (List.range 256).map (BitVec.ofNat 8)
  all.countP (classOf · == .core) = 116 ∧ all.countP (classOf · == .unlisted) = 35 ∧
  all.countP (classOf · == .undefined) = 105 ∧
  all.filter (classOf · == .unlisted) =
    [0x06, 0x0A, 0x0E, 0x16, 0x1E, 0x20, 0x26, 0x2A, 0x2E, 0x36, 0x3E, 0x40] ++
    [0x46, 0x4A, 0x4E, 0x56, 0x5E, 0x60, 0x66, 0x6A, 0x6E, 0x76, 0x7E, 0x88] ++
    [0xC6, 0xC8, 0xCA, 0xCE, 0xD6, 0xDE, 0xE6, 0xE8, 0xEE, 0xF6, 0xFE] ∧
  ∀ b o₀ o₁ : Byte, classOf b = .undefined ↔ decode [b, o₀, o₁] = .error (.undefinedByte b)

/-- A sanity statement: words written out by hand from R98 and R104 decode to the instructions they stand for. -/
def Obligations.WrittenOutWordsDecode : Prop :=
  decode [0b10101001, 0x69] = .ok (.ldaImm 0x69, []) ∧
  decode [0b10110101, 0xF8] = .ok (.ldaZpX 0xF8, []) ∧
  decode [0b10001101, 0x34, 0x12] = .ok (.staAbs 0x1234, []) ∧
  decode [0b01101100, 0x00, 0x02] = .ok (.jmpInd 0x0200, []) ∧
  decode [0b11010000, 0xFB] = .ok (.bne 0xFB, []) ∧
  decode [0b00001010] = .ok (.aslAcc, []) ∧
  decode [0b00000000] = .ok (.brk, []) ∧
  decode [0b00000010] = .error (.undefinedByte 0x02)

/-- R98, R162: the pairs of mnemonic and mode that are OpCodes are exactly those of the instructions; R90, R91: an instruction's
size is its mode's, 1 to 3 bytes, but for BRK, whose size is BRK_SIZE. -/
def Obligations.CatalogIsTheInstructionsWithTheirSizes : Prop :=
  (∀ op : OpCode, op.wf = true ↔ ∃ i : Instr, i.opCode = op) ∧
  (∀ (i : Instr) (k : BrkSize), i ≠ .brk → i.size k = i.mode.size ∧ (encode i).length = i.size k) ∧
  (∀ k : BrkSize, Instr.size k .brk = k.bytes) ∧
  (∀ (i : Instr) (k : BrkSize), 1 ≤ i.size k ∧ i.size k ≤ 3)

/-! ## Memory -/

/-- R61: "a read returns the byte last written to that cell", and a write changes only the addressed cell. -/
def Obligations.MemoryReadAfterWrite : Prop :=
  ∀ (m : Memory) (a b : Nat) (v : Byte), m.wf → (m.write a v).read b = if b = a then v else m.read b

/-- Canonical memories that read alike are equal data (the model's representation, log 11; R60, R61). -/
def Obligations.MemoriesThatReadAlikeAreEqual : Prop :=
  ∀ m n : Memory, m.wf → n.wf → (∀ a, m.read a = n.read a) → m = n

/-- R62: an access outside 0 to 65535 does not happen and raises OutOfRange of the address; inside, it is the cell's. -/
def Obligations.AccessesAreBoundsChecked : Prop :=
  ∀ (s : State) (addr : Int) (v : Byte),
    (¬ (0 ≤ addr ∧ addr < 65536) →
      memRead s addr = .error (.outOfRange addr) ∧ memWrite s addr v = .error (.outOfRange addr)) ∧
    (0 ≤ addr ∧ addr < 65536 →
      memRead s addr = .ok (s.mem.read addr.toNat) ∧
      memWrite s addr v = .ok { s with mem := s.mem.write addr.toNat v })

/-! ## Invariants -/

/-- Every step from a state that meets the invariant (memory canonical, not both marks set) leads to one that meets it. -/
def Obligations.StepKeepsTheInvariant : Prop :=
  ∀ s t : State, s.Inv → step s = .next t → t.Inv

/-- The state after any reset meets the invariant. -/
def Obligations.ResetMeetsTheInvariant : Prop :=
  ∀ (p : Params) (a x y : Byte), (State.resetWith p a x y).Inv

/-- Every action of the host keeps the invariant. -/
def Obligations.HostActionsKeepTheInvariant : Prop :=
  ∀ (h : HostAction) (s t : State), s.Inv → hostAct h s = some t → t.Inv

/-- Whatever the engine and the host do from power-on, in any order, the invariant holds and the parameters stay (R51, R442). -/
def Obligations.ReachableStatesMeetTheInvariant : Prop :=
  ∀ (p : Params) (s : State), Reachable p s → s.Inv ∧ s.params = p

/-! ## Rules of the whole machine -/

/-- Nothing stops an enabled machine: every instruction, in every state, answers a next state, and so does every step of a
state with neither mark set. The outcomes "fault" and "refused" belong to states that are already faulted or refused. -/
def Obligations.EnabledMachineAlwaysSteps : Prop :=
  (∀ (i : Instr) (s : State), ∃ t, exec i s = .next t) ∧
  (∀ s : State, s.fault = none → s.refused = none → ∃ t, step s = .next t)

/-- R403: a faulted state is terminal: neither `Step` nor `Run` executes a step, no action of the host but `Reset` clears FAULT,
`Reset` clears it, and a faulted state is no end of run. That `step` answers the fault also where REFUSED is set is the model's
choice (log 17), and that it answers the outcome `fault` at all is the model's form (log 7). -/
def Obligations.FaultedStateIsTerminal : Prop :=
  ∀ (s : State) (f : Fault), s.fault = some f →
    step s = .fault f ∧ (∀ n, batchRun n s = some s) ∧ s.ended = false ∧
    (∀ (h : HostAction) (t : State), hostAct h s = some t → (∀ a x y, h ≠ .reset a x y) → t.fault = some f) ∧
    (∀ a x y, (hostReset a x y s).fault = none)

/-- R126: with UNLISTED_FAMILIES = refuse, a step that finds an unlisted byte sets REFUSED to it and changes nothing else, emits
nothing and returns no cost; then no step is enabled, single or batch, after whatever actions of the host, in any number, short
of a reset, and none of these states is an end of run; a reset clears REFUSED. That the refused step answers a next state, and a
step after it the outcome `refused`, is the model's form (log 8). -/
def Obligations.UnlistedByteIsRefused : Prop :=
  ∀ s : State, s.fault = none → s.refused = none → s.params.unlisted = .refuse →
    classOf (s.mem.read s.pc.toNat) = .unlisted →
    ∃ t, step s = .next t ∧
      t = { s with refused := some (s.mem.read s.pc.toNat), out := { cycles := none, events := [] } } ∧
      step t = .refused (.unlistedByte (s.mem.read s.pc.toNat)) ∧ (∀ n, batchRun n t = some t) ∧ t.ended = false ∧
      (∀ (hs : List HostAction) (u : State), hostActs hs t = some u → (∀ h ∈ hs, ∀ a x y, h ≠ .reset a x y) →
        step u = .refused (.unlistedByte (s.mem.read s.pc.toNat)) ∧ (∀ n, batchRun n u = some u) ∧
        (∀ plan n, hostedRun (hs :: plan) n t = some u) ∧ u.ended = false) ∧
      (∀ a x y, (hostReset a x y t).refused = none)

/-- R128: executing BRK sets RUN to Halted, and BRK is the only instruction that writes RUN. -/
def Obligations.OnlyBrkWritesRun : Prop :=
  ∀ (i : Instr) (s t : State), exec i s = .next t → t.run = if i = .brk then .halted else s.run

/-- R31 to R33: who writes A, X, Y and SP. -/
def Obligations.RegisterWriters : Prop :=
  ∀ (i : Instr) (s t : State), exec i s = .next t →
    (i.mnemonic ∉ [.lda, .adc, .sbc, .and, .eor, .ora, .txa, .tya, .pla] →
      i ∉ [.aslAcc, .lsrAcc, .rolAcc, .rorAcc] → t.a = s.a) ∧
    (i.mnemonic ∉ [.ldx, .tax, .tsx, .inx, .dex] → t.x = s.x) ∧
    (i.mnemonic ∉ [.ldy, .tay, .iny, .dey] → t.y = s.y) ∧
    (i.mnemonic ∉ [.txs, .pha, .php, .pla, .plp, .jsr, .rts, .rti] → t.sp = s.sp)

/-- R40 to R45: who writes each flag of P. -/
def Obligations.FlagWriters : Prop :=
  ∀ (i : Instr) (s t : State), exec i s = .next t →
    (i.mnemonic ∉ [.adc, .sbc, .cmp, .cpx, .cpy, .clc, .sec, .plp, .asl, .lsr, .rol, .ror, .rti] →
      t.flag .c = s.flag .c) ∧
    (i.mnemonic ∉ [.lda, .ldx, .ldy, .adc, .sbc, .cmp, .cpx, .cpy, .and, .eor, .ora, .tax, .tay, .txa, .tya, .txs, .tsx] →
      i.mnemonic ∉ [.pla, .asl, .lsr, .rol, .ror, .inc, .dec, .inx, .iny, .dex, .dey, .bit, .plp, .rti] →
      t.flag .z = s.flag .z ∧ t.flag .n = s.flag .n) ∧
    (i.mnemonic ∉ [.adc, .sbc, .bit, .clv, .plp, .rti] → t.flag .v = s.flag .v) ∧
    (i.mnemonic ∉ [.sei, .cli, .plp, .rti] → t.flag .i = s.flag .i) ∧
    (i.mnemonic ∉ [.sed, .cld, .plp, .rti] → t.flag .d = s.flag .d) ∧
    (i.mnemonic ∉ [.plp, .rti] → t.flag .b = s.flag .b ∧ t.flag .u = s.flag .u)

/-- R36, R250: only a jump, a branch, JSR, RTS or RTI moves PC from the address just past the instruction. -/
def Obligations.OnlyControlTransfersMoveThePc : Prop :=
  ∀ (i : Instr) (s t : State), exec i s = .next t →
    i.mnemonic ∉ [.jmp, .bcc, .bcs, .beq, .bmi, .bne, .bpl, .bvc, .bvs, .jsr, .rts, .rti] → t.pc = s.pc

/-- R139, R402, R410: faults are precise. An instruction that changes FAULT has set it to OutOfRange of an address outside the
address space and changed nothing else; it is in one of the modes that can fault, and ADDR_OVERFLOW is `fault`. -/
def Obligations.FaultsArePrecise : Prop :=
  ∀ (i : Instr) (s t : State), exec i s = .next t → t.fault ≠ s.fault →
    ∃ addr : Int, t = { s with fault := some (.outOfRange addr) } ∧ ¬ (0 ≤ addr ∧ addr ≤ 65535) ∧
      s.params.addrOverflow = .fault ∧ i.mode ∈ [.absoluteX, .absoluteY, .indirect, .indirectY, .relative]

/-- R402: "With ADDR_OVERFLOW = `wrap16` nothing raises it": no step of an unfaulted machine faults. -/
def Obligations.NothingFaultsUnderWrap16 : Prop :=
  ∀ s t : State, s.params.addrOverflow = .wrap16 → step s = .next t → t.fault = none

/-- R43 to R45: the flags I, D, B and U gate nothing. Changing one of them before an instruction other than PHP, which stores P,
changes nothing after it but, at most, that flag. -/
def Obligations.StoredFlagsGateNothing : Prop :=
  ∀ (i : Instr) (f : Flag) (v : Bool) (s t : State), f ∈ [.i, .d, .b, .u] → i ≠ .php → exec i s = .next t →
    ∃ u, exec i (s.setFlag f v) = .next u ∧ u.setFlag f v = t.setFlag f v

/-! ## The step -/

/-- R122, R124, R36: a step of an enabled machine whose bytes at PC decode to `i`, not refused as unlisted, is `exec` of `i` on
the state with PC past the instruction and no outputs yet; at its end, unless it faulted, the outputs are the cycle cost and
the event InstructionExecuted. -/
def Obligations.StepRunsTheDecodedInstruction : Prop :=
  ∀ (s t : State) (i : Instr) (rest : List Byte),
    s.fault = none → s.refused = none → ¬ (s.params.unlisted = .refuse ∧ i.mnemonic.catalog = .unlisted) →
    decode [s.mem.read s.pc.toNat, s.mem.read (s.pc + 1).toNat, s.mem.read (s.pc + 2).toNat] = .ok (i, rest) →
    exec i { s with pc := s.pc + BitVec.ofNat 16 (i.size s.params.brkSize), out := { cycles := none, events := [] } } =
      .next t →
    (t.fault = none → step s =
      .next { t with out := { cycles := some (cycleCost s.params i), events := [.instructionExecuted] } }) ∧
    (t.fault ≠ none → step s = .next t)

/-- R125: an undefined byte runs as the no-op: PC advances by one, nothing else of the state changes, UnknownEncoding and then
InstructionExecuted are emitted and the cost is that of NOP. -/
def Obligations.UndefinedByteIsAOneByteNoop : Prop :=
  ∀ s : State, s.fault = none → s.refused = none → formOf (s.mem.read s.pc.toNat) = none →
    step s = .next { s with
      pc := s.pc + 1
      out := { cycles := some (cycleCost s.params .nop)
               events := [.unknownEncoding (s.mem.read s.pc.toNat) s.pc, .instructionExecuted] } }

/-- R132: a step that executes returns the cost of its descriptor, which depends on the opcode byte alone, whatever the operands
and whether a branch is taken; a faulted or refused step returns none. -/
def Obligations.StepReturnsTheDeclaredCost : Prop :=
  (∀ s t : State, step s = .next t →
    (t.fault = none → t.refused = none → t.out.cycles = some (cycleCost s.params s.fetch.instr)) ∧
    (t.fault ≠ none ∨ t.refused ≠ none → t.out.cycles = none)) ∧
  (∀ (p : Params) (i j : Instr), i.opcodeByte = j.opcodeByte → cycleCost p i = cycleCost p j)

/-- R78: a store is seen by the next fetch of the written address: after any store, PC set to the address stored to finds the
stored byte as its encoding byte. -/
def Obligations.StoreIsSeenByTheNextFetch : Prop :=
  ∀ (i : Instr) (r : Reg) (m : MemOperand) (s t : State) (w : Word), s.mem.wf → storeForm i = some (r, m) →
    effectiveAddress m s = .ok w → exec i s = .next t → ({ t with pc := w } : State).fetchBytes.head? = some (s.reg r)

/-- R34, R35: registers and PC step modulo their width, and an increment undoes a decrement. -/
def Obligations.IncrementUndoesDecrement : Prop :=
  (∀ b : Byte, (incByte b).toNat = (b.toNat + 1) % 256 ∧ ((decByte b).toNat : Int) = (b.toNat - 1) % 256 ∧
    incByte (decByte b) = b) ∧
  (∀ w : Word, (incWord w).toNat = (w.toNat + 1) % 65536 ∧ ((decWord w).toNat : Int) = (w.toNat - 1) % 65536 ∧
    incWord (decWord w) = w)

/-- R39: "set_flag(f, v2) applied after set_flag(f, v1) to s leaves every bit but f equal to s, and reading f then yields v2"; one
write changes that bit only. -/
def Obligations.FlagWriteKeepsSiblingBits : Prop :=
  ∀ (p : Byte) (f : Flag) (v₁ v₂ : Bool),
    getFlag (setFlag (setFlag p f v₁) f v₂) f = v₂ ∧
    (∀ k, k ≠ f.bit → (setFlag (setFlag p f v₁) f v₂).getLsbD k = p.getLsbD k) ∧
    (∀ k, k ≠ f.bit → (setFlag p f v₁).getLsbD k = p.getLsbD k)

/-! ## The addressing-mode resolver -/

/-- R164: `Addr16`. -/
def Obligations.Addr16Rule : Prop :=
  ∀ (ovf : AddrOverflow) (v : Int),
    (0 ≤ v ∧ v ≤ 65535 → ∃ w, addr16 ovf v = .ok w ∧ (w.toNat : Int) = v) ∧
    (¬ (0 ≤ v ∧ v ≤ 65535) → ∃ w, addr16 .wrap16 v = .ok w ∧ (w.toNat : Int) = v % 65536) ∧
    (¬ (0 ≤ v ∧ v ≤ 65535) → addr16 .fault v = .error (.outOfRange v))

/-- R151 to R154: the modes without a pointer. The zero-page index wraps within page zero; the absolute index goes through
Addr16. -/
def Obligations.DirectModesResolve : Prop :=
  ∀ (s : State) (zp : Byte) (abs : Word),
    (∃ w, effectiveAddress (.zeroPage zp) s = .ok w ∧ w.toNat = zp.toNat) ∧
    (∃ w, effectiveAddress (.zeroPageX zp) s = .ok w ∧ w.toNat = (zp.toNat + s.x.toNat) % 256) ∧
    (∃ w, effectiveAddress (.zeroPageY zp) s = .ok w ∧ w.toNat = (zp.toNat + s.y.toNat) % 256) ∧
    effectiveAddress (.absolute abs) s = .ok abs ∧
    effectiveAddress (.absoluteX abs) s = addr16 s.params.addrOverflow (abs.toNat + s.x.toNat) ∧
    effectiveAddress (.absoluteY abs) s = addr16 s.params.addrOverflow (abs.toNat + s.y.toNat)

/-- R156, R157: INDIRECT reads its pointer at `abs` and `abs + 1`, across a page end too; at 0xFFFF the high byte's address goes
through Addr16. -/
def Obligations.IndirectReadsItsPointer : Prop :=
  ∀ (s : State) (abs : Word),
    (abs.toNat < 65535 → ∃ w, effectiveAddress (.indirect abs) s = .ok w ∧
      w.toNat = (s.mem.read abs.toNat).toNat + 256 * (s.mem.read (abs.toNat + 1)).toNat) ∧
    (abs.toNat = 65535 → s.params.addrOverflow = .wrap16 → ∃ w, effectiveAddress (.indirect abs) s = .ok w ∧
      w.toNat = (s.mem.read 65535).toNat + 256 * (s.mem.read 0).toNat) ∧
    (abs.toNat = 65535 → s.params.addrOverflow = .fault →
      effectiveAddress (.indirect abs) s = .error (.outOfRange 65536))

/-- R158: INDIRECT_X wraps only the indexing byte; its high pointer byte may lie at 0x100. -/
def Obligations.IndirectXReadsItsPointer : Prop :=
  ∀ (s : State) (zp : Byte), ∃ w, effectiveAddress (.indirectX zp) s = .ok w ∧
    w.toNat = (s.mem.read ((zp.toNat + s.x.toNat) % 256)).toNat +
      256 * (s.mem.read ((zp.toNat + s.x.toNat) % 256 + 1)).toNat

/-- R159: INDIRECT_Y adds Y to the pointer at `zp` and `zp + 1` through Addr16. -/
def Obligations.IndirectYAddsYToThePointer : Prop :=
  ∀ (s : State) (zp : Byte), effectiveAddress (.indirectY zp) s =
    addr16 s.params.addrOverflow
      (((s.mem.read zp.toNat).toNat + 256 * (s.mem.read (zp.toNat + 1)).toNat + s.y.toNat : Nat) : Int)

/-- R155, R170: the operand of a reading instruction is the immediate byte itself, or the one byte at the effective address. -/
def Obligations.OperandIsImmediateOrTheByteAtEa : Prop :=
  (∀ (s : State) (v : Byte), readOperand (.immediate v) s = .ok v) ∧
  (∀ (s : State) (m : MemOperand) (w : Word), effectiveAddress m s = .ok w →
    readOperand (.memory m) s = .ok (s.mem.read w.toNat)) ∧
  (∀ (s : State) (m : MemOperand) (f : Fault), effectiveAddress m s = .error f → readOperand (.memory m) s = .error f)

/-- R402: every instruction whose effective address is out of range takes OutOfRange: FAULT set, everything else as the operand
fetch left it. -/
def Obligations.AddressOverflowTakesTheFault : Prop :=
  ∀ (i : Instr) (m : MemOperand) (s : State) (f : Fault), memOperand i = some m → effectiveAddress m s = .error f →
    exec i s = .next { s with fault := some f }

/-! ## Results and frames of the instructions -/

/-- R180: the loads LDA, LDX and LDY in all their forms. -/
def Obligations.LoadsSetTheirRegister : Prop :=
  ∀ (i : Instr) (r : Reg) (o : Operand) (s : State) (m : Byte), loadForm i = some (r, o) → readOperand o s = .ok m →
    ∃ t, exec i s = .next t ∧ t.reg r = m ∧ ZeroNegative t m ∧ t.pc = s.pc ∧ Unchanged s t [r] [.z, .n] []

/-- R184, R171: the stores STA, STX and STY in all their forms. -/
def Obligations.StoresWriteOneByte : Prop :=
  ∀ (i : Instr) (r : Reg) (m : MemOperand) (s : State) (w : Word), s.mem.wf → storeForm i = some (r, m) →
    effectiveAddress m s = .ok w →
    ∃ t, exec i s = .next t ∧ t.mem.read w.toNat = s.reg r ∧ t.pc = s.pc ∧ Unchanged s t [] [] [w.toNat]

/-- R210, R201, R203: ADC in all its forms; the carry is the signed overflow, and D is not read. -/
def Obligations.AdcAddsWithCarry : Prop :=
  ∀ (i : Instr) (o : Operand) (s : State) (m : Byte), adcForm i = some o → readOperand o s = .ok m →
    let c := (s.flag .c).toNat
    let ss : Int := s.a.toInt + m.toInt + c
    ∃ t, exec i s = .next t ∧ t.a.toNat = (s.a.toNat + m.toNat + c) % 256 ∧
      t.flag .v = decide (ss < -128 ∨ 127 < ss) ∧ t.flag .c = decide (ss < -128 ∨ 127 < ss) ∧
      ZeroNegative t t.a ∧ t.pc = s.pc ∧ Unchanged s t [.a] [.v, .c, .z, .n] []

/-- R212, R201, R203: SBC in all its forms; the carry is the complement of the signed overflow, and D is not read. -/
def Obligations.SbcSubtractsWithBorrow : Prop :=
  ∀ (i : Instr) (o : Operand) (s : State) (m : Byte), sbcForm i = some o → readOperand o s = .ok m →
    let b : Int := 1 - (s.flag .c).toNat
    let sd : Int := s.a.toInt - m.toInt - b
    ∃ t, exec i s = .next t ∧ (t.a.toNat : Int) = (s.a.toNat - m.toNat - b) % 256 ∧
      t.flag .v = decide (sd < -128 ∨ 127 < sd) ∧ t.flag .c = decide (-128 ≤ sd ∧ sd ≤ 127) ∧
      ZeroNegative t t.a ∧ t.pc = s.pc ∧ Unchanged s t [.a] [.v, .c, .z, .n] []

/-- R214: the compares CMP, CPX and CPY in all their forms. -/
def Obligations.ComparesSetCarryZeroNegative : Prop :=
  ∀ (i : Instr) (r : Reg) (o : Operand) (s : State) (m : Byte), compareForm i = some (r, o) → readOperand o s = .ok m →
    ∃ t, exec i s = .next t ∧ t.flag .c = decide (m.toNat ≤ (s.reg r).toNat) ∧ t.flag .z = decide (s.reg r = m) ∧
      t.flag .n = decide (128 ≤ ((s.reg r).toNat + 256 - m.toNat) % 256) ∧ t.pc = s.pc ∧ Unchanged s t [] [.c, .z, .n] []

/-- R219: AND, EOR and ORA in all their forms. -/
def Obligations.BitwiseOperationsOnTheAccumulator : Prop :=
  ∀ (i : Instr) (op : Byte → Byte → Byte) (o : Operand) (s : State) (m : Byte), bitwiseForm i = some (op, o) →
    readOperand o s = .ok m →
    ∃ t, exec i s = .next t ∧ t.a = op s.a m ∧ ZeroNegative t (op s.a m) ∧ t.pc = s.pc ∧ Unchanged s t [.a] [.z, .n] []

/-- R225: BIT in both forms. -/
def Obligations.BitTestsTheOperand : Prop :=
  ∀ (i : Instr) (o : Operand) (s : State) (m : Byte), bitForm i = some o → readOperand o s = .ok m →
    ∃ t, exec i s = .next t ∧ t.flag .z = decide (s.a &&& m = 0) ∧ t.flag .n = m.getLsbD 7 ∧ t.flag .v = m.getLsbD 6 ∧
      t.pc = s.pc ∧ Unchanged s t [] [.z, .n, .v] []

/-- R260: JMP goes to its word, or to the word its pointer gives, and changes nothing else. -/
def Obligations.JumpsGoToTheirTarget : Prop :=
  (∀ (target : Word) (s : State), exec (.jmpAbs target) s = .next { s with pc := target }) ∧
  (∀ (ptr w : Word) (s : State), effectiveAddress (.indirect ptr) s = .ok w →
    exec (.jmpInd ptr) s = .next { s with pc := w })

/-- R261: the eight branches. Not taken, nothing changes. Taken, PC is the sum of PC past the instruction and the signed offset,
if that is an address; if not, it wraps under `wrap16` and raises OutOfRange of the sum under `fault`. -/
def Obligations.BranchesGoToTheirTarget : Prop :=
  ∀ (i : Instr) (f : Flag) (v : Bool) (rel : Byte) (s : State), branchForm i = some (f, v, rel) →
    let sum : Int := s.pc.toNat + rel.toInt
    (s.flag f ≠ v → exec i s = .next s) ∧
    (s.flag f = v → 0 ≤ sum ∧ sum ≤ 65535 →
      ∃ w : Word, (w.toNat : Int) = sum ∧ exec i s = .next { s with pc := w }) ∧
    (s.flag f = v → ¬ (0 ≤ sum ∧ sum ≤ 65535) → s.params.addrOverflow = .wrap16 →
      ∃ w : Word, (w.toNat : Int) = sum % 65536 ∧ exec i s = .next { s with pc := w }) ∧
    (s.flag f = v → ¬ (0 ≤ sum ∧ sum ≤ 65535) → s.params.addrOverflow = .fault →
      exec i s = .next { s with fault := some (.outOfRange sum) })

/-- R280: the transfers, TXS and TSX included: target from source, Z and N from the value. -/
def Obligations.TransfersCopyAndSetZN : Prop :=
  ∀ (i : Instr) (source target : Reg) (s : State), transferForm i = some (source, target) →
    ∃ t, exec i s = .next t ∧ t.reg target = s.reg source ∧ ZeroNegative t (s.reg source) ∧ t.pc = s.pc ∧
      Unchanged s t [target] [.z, .n] []

/-- R290 to R292: PHA stores A and PHP stores P exactly as it stands at memory[SP], in the zero page, then SP is decremented
modulo 256. -/
def Obligations.PushesStoreThenDecrementSp : Prop :=
  ∀ (i : Instr) (v : Byte) (s : State), s.mem.wf → (i = .pha ∧ v = s.a ∨ i = .php ∧ v = s.p) →
    ∃ t, exec i s = .next t ∧ t.mem.read s.sp.toNat = v ∧ (t.sp.toNat : Int) = (s.sp.toNat - 1) % 256 ∧
      t.pc = s.pc ∧ Unchanged s t [.sp] [] [s.sp.toNat]

/-- R290, R293, R294: SP is incremented modulo 256, then memory[SP] is read: into A with Z and N by PLA, over the whole of P by
PLP. -/
def Obligations.PullsIncrementSpThenRead : Prop :=
  ∀ s : State,
    let slot := (s.sp.toNat + 1) % 256
    (∃ t, exec .pla s = .next t ∧ t.a = s.mem.read slot ∧ t.sp.toNat = slot ∧ ZeroNegative t (s.mem.read slot) ∧
      t.pc = s.pc ∧ Unchanged s t [.a, .sp] [.z, .n] []) ∧
    (∃ t, exec .plp s = .next t ∧ t.p = s.mem.read slot ∧ t.sp.toNat = slot ∧
      t.pc = s.pc ∧ Unchanged s t [.sp] [.c, .z, .i, .d, .b, .u, .v, .n] [])

/-- R295: each flag instruction writes its one flag and nothing else. -/
def Obligations.FlagInstructionsWriteOneFlag : Prop :=
  ∀ (i : Instr) (f : Flag) (v : Bool) (s : State), flagForm i = some (f, v) →
    ∃ t, exec i s = .next t ∧ t.flag f = v ∧ t.pc = s.pc ∧ Unchanged s t [] [f] []

/-- R305, R308: BRK halts and changes nothing else: it pushes nothing, writes no flag and reads no vector; NOP changes
nothing. -/
def Obligations.BrkHaltsAndNopDoesNothing : Prop :=
  ∀ s : State, exec .brk s = .next { s with run := .halted } ∧ exec .nop s = .next s

/-- R321 to R325: ASL, LSR, ROL and ROR of the accumulator and of memory. -/
def Obligations.ShiftsReplaceTheirOperand : Prop :=
  ∀ (i : Instr) (k : Shift) (s : State),
    (shiftForm i = some (k, .accumulator) →
      ∃ t, exec i s = .next t ∧ t.a.toNat = k.value s.a.toNat (s.flag .c).toNat ∧ t.flag .c = s.a.getLsbD k.carryBit ∧
        ZeroNegative t t.a ∧ t.pc = s.pc ∧ Unchanged s t [.a] [.c, .z, .n] []) ∧
    (∀ (m : MemOperand) (w : Word), s.mem.wf → shiftForm i = some (k, .memory m) → effectiveAddress m s = .ok w →
      ∃ t, exec i s = .next t ∧
        (t.mem.read w.toNat).toNat = k.value (s.mem.read w.toNat).toNat (s.flag .c).toNat ∧
        t.flag .c = (s.mem.read w.toNat).getLsbD k.carryBit ∧ ZeroNegative t (t.mem.read w.toNat) ∧ t.pc = s.pc ∧
        Unchanged s t [] [.c, .z, .n] [w.toNat])

/-- R326, R327: INC and DEC of memory. -/
def Obligations.MemoryIncrementsAndDecrements : Prop :=
  ∀ (i : Instr) (d : Int) (m : MemOperand) (s : State) (w : Word), s.mem.wf → incDecForm i = some (d, m) →
    effectiveAddress m s = .ok w →
    ∃ t, exec i s = .next t ∧ ((t.mem.read w.toNat).toNat : Int) = ((s.mem.read w.toNat).toNat + d) % 256 ∧
      ZeroNegative t (t.mem.read w.toNat) ∧ t.pc = s.pc ∧ Unchanged s t [] [.z, .n] [w.toNat]

/-- R329 to R332: INX, INY, DEX and DEY. -/
def Obligations.RegisterIncrementsAndDecrements : Prop :=
  ∀ (i : Instr) (d : Int) (r : Reg) (s : State), regIncDecForm i = some (d, r) →
    ∃ t, exec i s = .next t ∧ ((t.reg r).toNat : Int) = ((s.reg r).toNat + d) % 256 ∧ ZeroNegative t (t.reg r) ∧
      t.pc = s.pc ∧ Unchanged s t [r] [.z, .n] []

/-- R334 to R336: JSR pushes the address of its own last byte, high byte first, and goes to its target; RTS pulls an address, low
byte first, and goes one past it; RTI pulls the whole of P, then the address it goes to. -/
def Obligations.SubroutineCallAndReturns : Prop :=
  ∀ s : State,
    let slot (k : Nat) := (s.sp.toNat + k) % 256
    (s.mem.wf → ∀ target : Word, ∃ t, exec (.jsr target) s = .next t ∧ t.pc = target ∧
      ((t.mem.read s.sp.toNat).toNat * 256 + (t.mem.read (slot 255)).toNat : Int) = (s.pc.toNat - 1) % 65536 ∧
      t.sp.toNat = slot 254 ∧ Unchanged s t [.sp] [] [s.sp.toNat, slot 255]) ∧
    (∃ t, exec .rts s = .next t ∧
      t.pc.toNat = ((s.mem.read (slot 2)).toNat * 256 + (s.mem.read (slot 1)).toNat + 1) % 65536 ∧
      t.sp.toNat = slot 2 ∧ Unchanged s t [.sp] [] []) ∧
    (∃ t, exec .rti s = .next t ∧ t.p = s.mem.read (slot 1) ∧
      t.pc.toNat = (s.mem.read (slot 3)).toNat * 256 + (s.mem.read (slot 2)).toNat ∧
      t.sp.toNat = slot 3 ∧ Unchanged s t [.sp] [.c, .z, .i, .d, .b, .u, .v, .n] [])

/-- R294: PHP then PLP restores P exactly, whatever P became between; and RTS right after JSR continues at the instruction after
the JSR, with SP as it was (R334, R335). -/
def Obligations.PullUndoesPush : Prop :=
  ∀ s : State, s.mem.wf →
    (∀ (t : State) (p : Byte), exec .php s = .next t →
      ∃ u, exec .plp { t with p := p } = .next u ∧ u.p = s.p ∧ u.sp = s.sp) ∧
    (∀ (t : State) (target : Word), exec (.jsr target) s = .next t →
      ∃ u, exec .rts t = .next u ∧ u.pc = s.pc ∧ u.sp = s.sp ∧ u.p = s.p)

/-! ## The host -/

/-- R441, R442: what a reset leaves, regardless of the state before it, and that a second reset changes nothing. The bytes `a`,
`x`, `y` are the choice INIT_AXY. -/
def Obligations.ResetIsTotalAndIdempotent : Prop :=
  ∀ (a x y : Byte) (s : State),
    let t := hostReset a x y s
    t.pc = 0 ∧ t.sp = 0xFF ∧ t.p = 0 ∧ (∀ addr, t.mem.read addr = 0) ∧ t.a = a ∧ t.x = x ∧ t.y = y ∧
    t.run = .running ∧ t.fault = none ∧ t.refused = none ∧ t.out.events = [.memoryChanged, .cpuReset] ∧
    t.params = s.params ∧ hostReset a x y t = t ∧ ∀ a' x' y', hostReset a x y (hostReset a' x' y' s) = t

/-- R71: `Load` of n bytes puts them at 0 to n - 1, leaves the other cells and everything else, and emits MemoryChanged; more than
65536 bytes are not admitted. -/
def Obligations.LoadInstallsTheImageAtZero : Prop :=
  ∀ (bytes : List Byte) (s : State), s.mem.wf →
    (bytes.length ≤ 65536 → ∃ t, hostLoad bytes s = some t ∧
      (∀ k : Nat, t.mem.read k = if h : k < bytes.length then bytes[k] else s.mem.read k) ∧
      t = { s with mem := t.mem, out := { cycles := none, events := [.memoryChanged] } }) ∧
    (65536 < bytes.length → hostLoad bytes s = none)

/-- R135, R137, R138: `Run` returns at once when RUN is Halted; otherwise it makes the step and goes on; a `Stop` the host issues
during that step ends it after the step, in the state the whole step and the `Stop` leave. Whatever the host does between the
steps, what `Run` returns is a state it would not step, and if that is neither faulted nor refused, the run has ended. The bound
on the number of steps is the model's (log 9). -/
def Obligations.BatchRunStepsWhileRunning : Prop :=
  (∀ (n : Nat) (s : State), s.run = .halted → batchRun n s = some s) ∧
  (∀ (n : Nat) (s t : State), s.run = .running → step s = .next t → batchRun (n + 1) s = batchRun n t) ∧
  (∀ (n : Nat) (s t : State), batchRun n s = some t → t.run = .halted ∨ t.fault ≠ none ∨ t.refused ≠ none) ∧
  (∀ (n : Nat) (s t : State), batchRun n s = some t → t.fault = none → t.refused = none → t.ended = true) ∧
  (∀ (n : Nat) (s : State), hostedRun [] n s = batchRun n s) ∧
  (∀ (k n : Nat) (s : State), hostedRun (List.replicate k []) n s = batchRun (k + n) s) ∧
  (∀ (plan : List (List HostAction)) (n : Nat) (s t : State), s.run = .running → step s = .next t →
    hostedRun ([] :: plan) n s = hostedRun plan n t ∧ hostedRun ([] :: [.stop] :: plan) n s = some (hostStop t)) ∧
  (∀ (plan : List (List HostAction)) (n : Nat) (s t : State), hostedRun plan n s = some t →
    t.run = .halted ∨ t.fault ≠ none ∨ t.refused ≠ none) ∧
  (∀ (plan : List (List HostAction)) (n : Nat) (s t : State), hostedRun plan n s = some t → t.fault = none →
    t.refused = none → t.ended = true)

/-- R129, R131: `Stop` and `Start` set RUN and nothing else of the state; `Start` enables no step where FAULT or REFUSED is set. -/
def Obligations.StartAndStopWriteRunOnly : Prop :=
  ∀ s : State,
    hostStop s = { s with run := .halted, out := { cycles := none, events := [] } } ∧
    hostStart s = { s with run := .running, out := { cycles := none, events := [] } } ∧
    (s.fault ≠ none ∨ s.refused ≠ none → (∀ t, step (hostStart s) ≠ .next t) ∧ ∀ n, batchRun n (hostStart s) = some (hostStart s)) ∧
    (s.run = .running → hostStart s = s.emit [])

/-- R72, R73: `Dump` returns the 65,536 cells in address order; `Poke` writes its one cell; `Peek` returns a cell, emits
MemoryAccess and changes nothing. -/
def Obligations.HostReadsAndPatchesMemory : Prop :=
  ∀ (s : State) (w : Word) (v : Byte), s.mem.wf →
    (hostDump s).length = 65536 ∧ (hostDump s)[w.toNat]? = some (s.mem.read w.toNat) ∧
    (∀ addr, (hostPoke w v s).mem.read addr = if addr = w.toNat then v else s.mem.read addr) ∧
    hostPoke w v s = { s with mem := (hostPoke w v s).mem, out := { cycles := none, events := [] } } ∧
    hostPeek w s = (s.mem.read w.toNat, { s with out := { cycles := none, events := [.memoryAccess] } })
end

