-- ==== Sys2Proof/Laws/Decode.lean ====
section
/-! SUPPORT. The words of the encoding: composing a word from its bytes and taking it apart (spec/00_scope.md R12). -/

namespace Sys2Proof

/-- `lo ++ hi` as a number. -/
theorem toNat_wordOf (lo hi : Byte) : (wordOf lo hi).toNat = hi.toNat * 256 + lo.toNat := by
  simp only [wordOf, BitVec.toNat_ofNat]
  omega

theorem toNat_loByte (w : Word) : (loByte w).toNat = w.toNat % 256 := by
  simp [loByte]

theorem toNat_hiByte (w : Word) : (hiByte w).toNat = w.toNat / 256 := by
  simp only [hiByte, BitVec.toNat_ofNat]
  omega

/-- A word is composed from its two bytes. -/
@[simp] theorem wordOf_lo_hi (w : Word) : wordOf (loByte w) (hiByte w) = w := by
  apply BitVec.eq_of_toNat_eq
  rw [toNat_wordOf, toNat_loByte, toNat_hiByte]
  omega

@[simp] theorem loByte_wordOf (lo hi : Byte) : loByte (wordOf lo hi) = lo := by
  apply BitVec.eq_of_toNat_eq
  rw [toNat_loByte, toNat_wordOf]
  omega

@[simp] theorem hiByte_wordOf (lo hi : Byte) : hiByte (wordOf lo hi) = hi := by
  apply BitVec.eq_of_toNat_eq
  rw [toNat_hiByte, toNat_wordOf]
  omega

/-- The decode table and the encoder give each form the same bytes (R94). -/
theorem encode_of_formOf {b : Byte} {f : Form} (h : formOf b = some f) :
    match f with
    | .none i => encode i = [b]
    | .byte mk => ∀ o, encode (mk o) = [b, o]
    | .word mk => ∀ w, encode (mk w) = [b, loByte w, hiByte w] := by
  unfold formOf at h
  split at h <;> first | (cases h; first | rfl | (intro o; rfl)) | cases h

/-- The decode table holds each instruction's byte, with a form of its OpCode (R94). -/
theorem formOf_opcodeByte (i : Instr) : ∃ f, formOf i.opcodeByte = some f ∧ f.sample.opCode = i.opCode := by
  cases i <;> exact ⟨_, rfl, rfl⟩

end Sys2Proof
end

