-- ==== Sys2Proof/Laws/Flags.lean ====
section
/-! SUPPORT. Reading a flag of P after the flag computations (spec/10_state.md R38, R39, spec/00_scope.md R15). -/

namespace Sys2Proof.Machine

/-- The model's signed reading of a byte is two's complement (R12). -/
theorem s8_eq_toInt (b : Byte) : s8 b = b.toInt := by
  unfold s8 BitVec.toInt
  split <;> split <;> omega

/-- The address of the stack byte is SP itself (R290). -/
@[simp] theorem toNat_zext16 (b : Byte) : (zext16 b).toNat = b.toNat := by
  simp only [zext16, BitVec.toNat_ofNat]
  omega

theorem Flag.bit_lt (f : Flag) : f.bit < 8 := by cases f <;> decide

/-- Every bit of P is one of the eight flags, so equal flags make equal status bytes (R38). -/
theorem status_ext {p q : Byte} (h : ∀ f, getFlag p f = getFlag q f) : p = q := by
  apply BitVec.eq_of_getLsbD_eq
  intro k hk
  have hk : k = 0 ∨ k = 1 ∨ k = 2 ∨ k = 3 ∨ k = 4 ∨ k = 5 ∨ k = 6 ∨ k = 7 := by omega
  rcases hk with rfl | rfl | rfl | rfl | rfl | rfl | rfl | rfl
  exacts [h .c, h .z, h .i, h .d, h .b, h .u, h .v, h .n]

/-- A flag reads as what was written to it; every other flag is left alone. -/
theorem getFlag_setFlag (p : Byte) (f g : Flag) (v : Bool) :
    getFlag (setFlag p f v) g = if g = f then v else getFlag p g := by
  have h : (1#8 <<< f.bit).getLsbD g.bit = decide (g = f) := by cases f <;> cases g <;> rfl
  have hg : decide (g.bit < 8) = true := by cases g <;> rfl
  cases v <;>
    simp only [getFlag, setFlag, Bool.false_eq_true, if_true, if_false, BitVec.getLsbD_or, BitVec.getLsbD_and,
      BitVec.getLsbD_not, h, hg, Bool.true_and] <;>
    by_cases e : g = f <;> simp [e]

@[simp] theorem flag_eq (s : State) (f : Flag) : s.flag f = getFlag s.p f := rfl

/-- Z and N of `SetNZ(v)` read from `v`, the other flags are left alone. -/
theorem getFlag_statusNZ (p v : Byte) (g : Flag) :
    getFlag (statusNZ p v) g = if g = .n then v.msb else if g = .z then v == 0 else getFlag p g := by
  simp only [statusNZ, getFlag_setFlag]

/-- The flags after ADC. -/
theorem getFlag_adcStatus (p a m : Byte) (g : Flag) :
    getFlag (adcStatus p a m) g =
      if g = .n then (adcValue p a m).msb else if g = .z then adcValue p a m == 0
      else if g = .c ∨ g = .v then adcOverflow p a m else getFlag p g := by
  simp only [adcStatus, getFlag_statusNZ, getFlag_setFlag]
  cases g <;> simp

/-- The flags after SBC. -/
theorem getFlag_sbcStatus (p a m : Byte) (g : Flag) :
    getFlag (sbcStatus p a m) g =
      if g = .n then (sbcValue p a m).msb else if g = .z then sbcValue p a m == 0
      else if g = .c then !sbcOverflow p a m else if g = .v then sbcOverflow p a m else getFlag p g := by
  simp only [sbcStatus, getFlag_statusNZ, getFlag_setFlag]

/-- The flags after a compare. -/
theorem getFlag_compareStatus (p r m : Byte) (g : Flag) :
    getFlag (compareStatus p r m) g =
      if g = .n then (r - m).msb else if g = .z then r - m == 0
      else if g = .c then decide (m.toNat ≤ r.toNat) else getFlag p g := by
  simp only [compareStatus, getFlag_statusNZ, getFlag_setFlag]

/-- The flags after BIT. -/
theorem getFlag_bitStatus (p a m : Byte) (g : Flag) :
    getFlag (bitStatus p a m) g =
      if g = .v then m.getLsbD 6 else if g = .n then m.getLsbD 7
      else if g = .z then (a &&& m) == 0 else getFlag p g := by
  simp only [bitStatus, getFlag_setFlag]

end Sys2Proof.Machine
end

