-- ==== Sys2Proof/Laws/Memory.lean ====
section
/-! SUPPORT. Memory: reads after writes, and every memory operation keeps the canonical form (spec/20_memory.md R60 to R62). -/

namespace Sys2Proof.Machine

/-- The address space as an interval (R60). -/
@[simp] theorem inRange_iff (addr : Int) : inRange addr = true ↔ 0 ≤ addr ∧ addr ≤ 65535 := by
  cases addr with
  | ofNat n => simp only [inRange, Nat.blt_eq, Int.ofNat_eq_natCast]; omega
  | negSucc n => simp only [inRange, Bool.false_eq_true, false_iff]; omega

theorem Memory.wf_nil : Memory.wf [] := by simp [Memory.wf]

/-- The tail of a canonical memory is canonical, and starts above the head. -/
theorem Memory.wf_cons {b : Nat} {w : Byte} {m : Memory} :
    Memory.wf ((b, w) :: m) ↔ (∀ c ∈ m, b < c.1) ∧ w ≠ Memory.blank ∧ b < 65536 ∧ Memory.wf m := by
  simp only [Memory.wf, List.pairwise_cons, List.mem_cons, forall_eq_or_imp]
  constructor
  · rintro ⟨⟨h1, h2⟩, ⟨h3, h4⟩, h5⟩
    exact ⟨h1, h3, h4, h2, h5⟩
  · rintro ⟨h1, h3, h4, h2, h5⟩
    exact ⟨⟨h1, h2⟩, ⟨h3, h4⟩, h5⟩

/-- An address below every listed one reads as the blank value. -/
theorem Memory.read_of_lt {m : Memory} {a : Nat} (h : ∀ c ∈ m, a < c.1) : m.read a = Memory.blank := by
  induction m with
  | nil => rfl
  | cons c m ih =>
    obtain ⟨b, w⟩ := c
    have hb : a < b := h (b, w) (by simp)
    simp only [Memory.read, if_neg (Nat.ne_of_gt hb)]
    exact ih fun c hc => h c (by simp [hc])

/-- The cells of a written memory are old cells or the new one. -/
theorem Memory.mem_write {m : Memory} {a : Nat} {v : Byte} {c : Host.Cell} (h : c ∈ m.write a v) :
    c ∈ m ∨ (c = (a, v) ∧ v ≠ Memory.blank) := by
  induction m with
  | nil =>
    simp only [Memory.write] at h
    split at h <;> simp_all
  | cons d m ih =>
    obtain ⟨b, w⟩ := d
    simp only [Memory.write] at h
    split at h
    · split at h
      · exact .inl h
      · rcases List.mem_cons.mp h with h | h
        · exact .inr ⟨h, ‹_›⟩
        · exact .inl h
    · split at h
      · split at h
        · exact .inl (List.mem_cons_of_mem _ h)
        · rcases List.mem_cons.mp h with h | h
          · exact .inr ⟨h, ‹_›⟩
          · exact .inl (List.mem_cons_of_mem _ h)
      · rcases List.mem_cons.mp h with h | h
        · exact .inl (by simp [h])
        · rcases ih h with h | h
          · exact .inl (by simp [h])
          · exact .inr h

/-- A write inside the address space keeps the canonical form. -/
theorem Memory.wf_write {m : Memory} (h : m.wf) {a : Nat} (ha : a < 65536) (v : Byte) : (m.write a v).wf := by
  induction m with
  | nil =>
    simp only [Memory.write]
    split
    · exact Memory.wf_nil
    · simp [Memory.wf, *]
  | cons c m ih =>
    obtain ⟨b, w⟩ := c
    obtain ⟨h1, h2, h3, h4⟩ := Memory.wf_cons.mp h
    simp only [Memory.write]
    split
    · split
      · exact h
      · refine Memory.wf_cons.mpr ⟨?_, ‹_›, ha, h⟩
        intro c hc
        rcases List.mem_cons.mp hc with rfl | hc
        · assumption
        · have := h1 c hc
          omega
    · split
      · split
        · exact h4
        · subst_vars
          exact Memory.wf_cons.mpr ⟨h1, ‹_›, ha, h4⟩
      · refine Memory.wf_cons.mpr ⟨?_, h2, h3, ih h4⟩
        intro c hc
        rcases Memory.mem_write hc with hc | ⟨rfl, -⟩
        · exact h1 c hc
        · show b < a
          omega

/-- A write to a 16-bit address keeps the canonical form. -/
theorem Memory.wf_write_word {m : Memory} (h : m.wf) (w : Word) (v : Byte) : (m.write w.toNat v).wf :=
  Memory.wf_write h w.isLt v

/-- Storing bytes keeps the canonical form. -/
theorem Memory.wf_storeBytes {m : Memory} (h : m.wf) (bs : List Byte) (a : Word) : (storeBytes bs a m).wf := by
  induction bs generalizing a m with
  | nil => exact h
  | cons b bs ih => exact ih (Memory.wf_write_word h a b) (a + 1)

/-- The bounds-checked write keeps the canonical form. -/
theorem Memory.wf_memWrite {s t : State} {a : Int} {v : Byte} (h : s.mem.wf) (hw : memWrite s a v = .ok t) : t.mem.wf := by
  unfold memWrite at hw
  split at hw
  · obtain ⟨h0, h1⟩ := (inRange_iff a).mp ‹inRange a = true›
    cases hw
    exact Memory.wf_write h (by omega) v
  · cases hw

/-- A push keeps the canonical form. -/
theorem Memory.wf_push {s : State} (h : s.mem.wf) (v : Byte) : (s.push v).mem.wf := Memory.wf_write_word h _ v

end Sys2Proof.Machine
end

