-- ==== Sys2Proof/Laws/State.lean ====
section
/-! SUPPORT. One lemma per field per named update of the state, each true by unfolding, so that no proof unfolds an update. -/

namespace Sys2Proof.Machine

@[simp] theorem a_setNZ (s : State) (v : Byte) : (s.setNZ v).a = s.a := rfl
@[simp] theorem x_setNZ (s : State) (v : Byte) : (s.setNZ v).x = s.x := rfl
@[simp] theorem y_setNZ (s : State) (v : Byte) : (s.setNZ v).y = s.y := rfl
@[simp] theorem sp_setNZ (s : State) (v : Byte) : (s.setNZ v).sp = s.sp := rfl
@[simp] theorem p_setNZ (s : State) (v : Byte) : (s.setNZ v).p = statusNZ s.p v := rfl
@[simp] theorem pc_setNZ (s : State) (v : Byte) : (s.setNZ v).pc = s.pc := rfl
@[simp] theorem mem_setNZ (s : State) (v : Byte) : (s.setNZ v).mem = s.mem := rfl
@[simp] theorem run_setNZ (s : State) (v : Byte) : (s.setNZ v).run = s.run := rfl
@[simp] theorem fault_setNZ (s : State) (v : Byte) : (s.setNZ v).fault = s.fault := rfl
@[simp] theorem refused_setNZ (s : State) (v : Byte) : (s.setNZ v).refused = s.refused := rfl
@[simp] theorem out_setNZ (s : State) (v : Byte) : (s.setNZ v).out = s.out := rfl
@[simp] theorem params_setNZ (s : State) (v : Byte) : (s.setNZ v).params = s.params := rfl

@[simp] theorem a_setFlag (s : State) (f : Flag) (v : Bool) : (s.setFlag f v).a = s.a := rfl
@[simp] theorem x_setFlag (s : State) (f : Flag) (v : Bool) : (s.setFlag f v).x = s.x := rfl
@[simp] theorem y_setFlag (s : State) (f : Flag) (v : Bool) : (s.setFlag f v).y = s.y := rfl
@[simp] theorem sp_setFlag (s : State) (f : Flag) (v : Bool) : (s.setFlag f v).sp = s.sp := rfl
@[simp] theorem p_setFlag (s : State) (f : Flag) (v : Bool) : (s.setFlag f v).p = setFlag s.p f v := rfl
@[simp] theorem pc_setFlag (s : State) (f : Flag) (v : Bool) : (s.setFlag f v).pc = s.pc := rfl
@[simp] theorem mem_setFlag (s : State) (f : Flag) (v : Bool) : (s.setFlag f v).mem = s.mem := rfl
@[simp] theorem run_setFlag (s : State) (f : Flag) (v : Bool) : (s.setFlag f v).run = s.run := rfl
@[simp] theorem fault_setFlag (s : State) (f : Flag) (v : Bool) : (s.setFlag f v).fault = s.fault := rfl
@[simp] theorem refused_setFlag (s : State) (f : Flag) (v : Bool) : (s.setFlag f v).refused = s.refused := rfl
@[simp] theorem out_setFlag (s : State) (f : Flag) (v : Bool) : (s.setFlag f v).out = s.out := rfl
@[simp] theorem params_setFlag (s : State) (f : Flag) (v : Bool) : (s.setFlag f v).params = s.params := rfl

@[simp] theorem a_push (s : State) (v : Byte) : (s.push v).a = s.a := rfl
@[simp] theorem x_push (s : State) (v : Byte) : (s.push v).x = s.x := rfl
@[simp] theorem y_push (s : State) (v : Byte) : (s.push v).y = s.y := rfl
@[simp] theorem sp_push (s : State) (v : Byte) : (s.push v).sp = decByte s.sp := rfl
@[simp] theorem p_push (s : State) (v : Byte) : (s.push v).p = s.p := rfl
@[simp] theorem pc_push (s : State) (v : Byte) : (s.push v).pc = s.pc := rfl
@[simp] theorem mem_push (s : State) (v : Byte) : (s.push v).mem = s.mem.write (zext16 s.sp).toNat v := rfl
@[simp] theorem run_push (s : State) (v : Byte) : (s.push v).run = s.run := rfl
@[simp] theorem fault_push (s : State) (v : Byte) : (s.push v).fault = s.fault := rfl
@[simp] theorem refused_push (s : State) (v : Byte) : (s.push v).refused = s.refused := rfl
@[simp] theorem out_push (s : State) (v : Byte) : (s.push v).out = s.out := rfl
@[simp] theorem params_push (s : State) (v : Byte) : (s.push v).params = s.params := rfl

@[simp] theorem a_popped (s : State) : (s.popped).a = s.a := rfl
@[simp] theorem x_popped (s : State) : (s.popped).x = s.x := rfl
@[simp] theorem y_popped (s : State) : (s.popped).y = s.y := rfl
@[simp] theorem sp_popped (s : State) : (s.popped).sp = incByte s.sp := rfl
@[simp] theorem p_popped (s : State) : (s.popped).p = s.p := rfl
@[simp] theorem pc_popped (s : State) : (s.popped).pc = s.pc := rfl
@[simp] theorem mem_popped (s : State) : (s.popped).mem = s.mem := rfl
@[simp] theorem run_popped (s : State) : (s.popped).run = s.run := rfl
@[simp] theorem fault_popped (s : State) : (s.popped).fault = s.fault := rfl
@[simp] theorem refused_popped (s : State) : (s.popped).refused = s.refused := rfl
@[simp] theorem out_popped (s : State) : (s.popped).out = s.out := rfl
@[simp] theorem params_popped (s : State) : (s.popped).params = s.params := rfl

@[simp] theorem a_raise (s : State) (f : Fault) : (s.raise f).a = s.a := rfl
@[simp] theorem x_raise (s : State) (f : Fault) : (s.raise f).x = s.x := rfl
@[simp] theorem y_raise (s : State) (f : Fault) : (s.raise f).y = s.y := rfl
@[simp] theorem sp_raise (s : State) (f : Fault) : (s.raise f).sp = s.sp := rfl
@[simp] theorem p_raise (s : State) (f : Fault) : (s.raise f).p = s.p := rfl
@[simp] theorem pc_raise (s : State) (f : Fault) : (s.raise f).pc = s.pc := rfl
@[simp] theorem mem_raise (s : State) (f : Fault) : (s.raise f).mem = s.mem := rfl
@[simp] theorem run_raise (s : State) (f : Fault) : (s.raise f).run = s.run := rfl
@[simp] theorem fault_raise (s : State) (f : Fault) : (s.raise f).fault = some f := rfl
@[simp] theorem refused_raise (s : State) (f : Fault) : (s.raise f).refused = s.refused := rfl
@[simp] theorem out_raise (s : State) (f : Fault) : (s.raise f).out = s.out := rfl
@[simp] theorem params_raise (s : State) (f : Fault) : (s.raise f).params = s.params := rfl

@[simp] theorem a_emit (s : State) (es : List Event) : (s.emit es).a = s.a := rfl
@[simp] theorem x_emit (s : State) (es : List Event) : (s.emit es).x = s.x := rfl
@[simp] theorem y_emit (s : State) (es : List Event) : (s.emit es).y = s.y := rfl
@[simp] theorem sp_emit (s : State) (es : List Event) : (s.emit es).sp = s.sp := rfl
@[simp] theorem p_emit (s : State) (es : List Event) : (s.emit es).p = s.p := rfl
@[simp] theorem pc_emit (s : State) (es : List Event) : (s.emit es).pc = s.pc := rfl
@[simp] theorem mem_emit (s : State) (es : List Event) : (s.emit es).mem = s.mem := rfl
@[simp] theorem run_emit (s : State) (es : List Event) : (s.emit es).run = s.run := rfl
@[simp] theorem fault_emit (s : State) (es : List Event) : (s.emit es).fault = s.fault := rfl
@[simp] theorem refused_emit (s : State) (es : List Event) : (s.emit es).refused = s.refused := rfl
@[simp] theorem out_emit (s : State) (es : List Event) : (s.emit es).out = { cycles := none, events := es } := rfl
@[simp] theorem params_emit (s : State) (es : List Event) : (s.emit es).params = s.params := rfl

@[simp] theorem a_refuse (s : State) : (s.refuse).a = s.a := rfl
@[simp] theorem x_refuse (s : State) : (s.refuse).x = s.x := rfl
@[simp] theorem y_refuse (s : State) : (s.refuse).y = s.y := rfl
@[simp] theorem sp_refuse (s : State) : (s.refuse).sp = s.sp := rfl
@[simp] theorem p_refuse (s : State) : (s.refuse).p = s.p := rfl
@[simp] theorem pc_refuse (s : State) : (s.refuse).pc = s.pc := rfl
@[simp] theorem mem_refuse (s : State) : (s.refuse).mem = s.mem := rfl
@[simp] theorem run_refuse (s : State) : (s.refuse).run = s.run := rfl
@[simp] theorem fault_refuse (s : State) : (s.refuse).fault = s.fault := rfl
@[simp] theorem refused_refuse (s : State) : (s.refuse).refused = some s.opcodeAtPc := rfl
@[simp] theorem out_refuse (s : State) : (s.refuse).out = { cycles := none, events := [] } := rfl
@[simp] theorem params_refuse (s : State) : (s.refuse).params = s.params := rfl

@[simp] theorem a_enter (s : State) (f : Fetched) : (s.enter f).a = s.a := rfl
@[simp] theorem x_enter (s : State) (f : Fetched) : (s.enter f).x = s.x := rfl
@[simp] theorem y_enter (s : State) (f : Fetched) : (s.enter f).y = s.y := rfl
@[simp] theorem sp_enter (s : State) (f : Fetched) : (s.enter f).sp = s.sp := rfl
@[simp] theorem p_enter (s : State) (f : Fetched) : (s.enter f).p = s.p := rfl
@[simp] theorem pc_enter (s : State) (f : Fetched) : (s.enter f).pc = s.pc + BitVec.ofNat 16 f.size := rfl
@[simp] theorem mem_enter (s : State) (f : Fetched) : (s.enter f).mem = s.mem := rfl
@[simp] theorem run_enter (s : State) (f : Fetched) : (s.enter f).run = s.run := rfl
@[simp] theorem fault_enter (s : State) (f : Fetched) : (s.enter f).fault = s.fault := rfl
@[simp] theorem refused_enter (s : State) (f : Fetched) : (s.enter f).refused = s.refused := rfl
@[simp] theorem out_enter (s : State) (f : Fetched) : (s.enter f).out = { cycles := none, events := f.events } := rfl
@[simp] theorem params_enter (s : State) (f : Fetched) : (s.enter f).params = s.params := rfl

@[simp] theorem a_placeAtPc (s : State) (nbits w : Nat) : (s.placeAtPc nbits w).a = s.a := rfl
@[simp] theorem x_placeAtPc (s : State) (nbits w : Nat) : (s.placeAtPc nbits w).x = s.x := rfl
@[simp] theorem y_placeAtPc (s : State) (nbits w : Nat) : (s.placeAtPc nbits w).y = s.y := rfl
@[simp] theorem sp_placeAtPc (s : State) (nbits w : Nat) : (s.placeAtPc nbits w).sp = s.sp := rfl
@[simp] theorem p_placeAtPc (s : State) (nbits w : Nat) : (s.placeAtPc nbits w).p = s.p := rfl
@[simp] theorem pc_placeAtPc (s : State) (nbits w : Nat) : (s.placeAtPc nbits w).pc = s.pc := rfl
@[simp] theorem mem_placeAtPc (s : State) (nbits w : Nat) : (s.placeAtPc nbits w).mem = storeBytes (tableBytes nbits w) s.pc s.mem := rfl
@[simp] theorem run_placeAtPc (s : State) (nbits w : Nat) : (s.placeAtPc nbits w).run = s.run := rfl
@[simp] theorem fault_placeAtPc (s : State) (nbits w : Nat) : (s.placeAtPc nbits w).fault = none := rfl
@[simp] theorem refused_placeAtPc (s : State) (nbits w : Nat) : (s.placeAtPc nbits w).refused = none := rfl
@[simp] theorem out_placeAtPc (s : State) (nbits w : Nat) : (s.placeAtPc nbits w).out = s.out := rfl
@[simp] theorem params_placeAtPc (s : State) (nbits w : Nat) : (s.placeAtPc nbits w).params = s.params := rfl

@[simp] theorem a_hostStart (s : State) : (hostStart s).a = s.a := rfl
@[simp] theorem x_hostStart (s : State) : (hostStart s).x = s.x := rfl
@[simp] theorem y_hostStart (s : State) : (hostStart s).y = s.y := rfl
@[simp] theorem sp_hostStart (s : State) : (hostStart s).sp = s.sp := rfl
@[simp] theorem p_hostStart (s : State) : (hostStart s).p = s.p := rfl
@[simp] theorem pc_hostStart (s : State) : (hostStart s).pc = s.pc := rfl
@[simp] theorem mem_hostStart (s : State) : (hostStart s).mem = s.mem := rfl
@[simp] theorem run_hostStart (s : State) : (hostStart s).run = .running := rfl
@[simp] theorem fault_hostStart (s : State) : (hostStart s).fault = s.fault := rfl
@[simp] theorem refused_hostStart (s : State) : (hostStart s).refused = s.refused := rfl
@[simp] theorem out_hostStart (s : State) : (hostStart s).out = { cycles := none, events := [] } := rfl
@[simp] theorem params_hostStart (s : State) : (hostStart s).params = s.params := rfl

@[simp] theorem a_hostStop (s : State) : (hostStop s).a = s.a := rfl
@[simp] theorem x_hostStop (s : State) : (hostStop s).x = s.x := rfl
@[simp] theorem y_hostStop (s : State) : (hostStop s).y = s.y := rfl
@[simp] theorem sp_hostStop (s : State) : (hostStop s).sp = s.sp := rfl
@[simp] theorem p_hostStop (s : State) : (hostStop s).p = s.p := rfl
@[simp] theorem pc_hostStop (s : State) : (hostStop s).pc = s.pc := rfl
@[simp] theorem mem_hostStop (s : State) : (hostStop s).mem = s.mem := rfl
@[simp] theorem run_hostStop (s : State) : (hostStop s).run = .halted := rfl
@[simp] theorem fault_hostStop (s : State) : (hostStop s).fault = s.fault := rfl
@[simp] theorem refused_hostStop (s : State) : (hostStop s).refused = s.refused := rfl
@[simp] theorem out_hostStop (s : State) : (hostStop s).out = { cycles := none, events := [] } := rfl
@[simp] theorem params_hostStop (s : State) : (hostStop s).params = s.params := rfl

@[simp] theorem a_hostPoke (s : State) (a : Word) (v : Byte) : (hostPoke a v s).a = s.a := rfl
@[simp] theorem x_hostPoke (s : State) (a : Word) (v : Byte) : (hostPoke a v s).x = s.x := rfl
@[simp] theorem y_hostPoke (s : State) (a : Word) (v : Byte) : (hostPoke a v s).y = s.y := rfl
@[simp] theorem sp_hostPoke (s : State) (a : Word) (v : Byte) : (hostPoke a v s).sp = s.sp := rfl
@[simp] theorem p_hostPoke (s : State) (a : Word) (v : Byte) : (hostPoke a v s).p = s.p := rfl
@[simp] theorem pc_hostPoke (s : State) (a : Word) (v : Byte) : (hostPoke a v s).pc = s.pc := rfl
@[simp] theorem mem_hostPoke (s : State) (a : Word) (v : Byte) : (hostPoke a v s).mem = s.mem.write a.toNat v := rfl
@[simp] theorem run_hostPoke (s : State) (a : Word) (v : Byte) : (hostPoke a v s).run = s.run := rfl
@[simp] theorem fault_hostPoke (s : State) (a : Word) (v : Byte) : (hostPoke a v s).fault = s.fault := rfl
@[simp] theorem refused_hostPoke (s : State) (a : Word) (v : Byte) : (hostPoke a v s).refused = s.refused := rfl
@[simp] theorem out_hostPoke (s : State) (a : Word) (v : Byte) : (hostPoke a v s).out = { cycles := none, events := [] } := rfl
@[simp] theorem params_hostPoke (s : State) (a : Word) (v : Byte) : (hostPoke a v s).params = s.params := rfl

/-! `setReg` and `leave` change one field chosen by their argument. -/

@[simp] theorem p_setReg (s : State) (r : Reg) (v : Byte) : (s.setReg r v).p = s.p := by cases r <;> rfl
@[simp] theorem pc_setReg (s : State) (r : Reg) (v : Byte) : (s.setReg r v).pc = s.pc := by cases r <;> rfl
@[simp] theorem mem_setReg (s : State) (r : Reg) (v : Byte) : (s.setReg r v).mem = s.mem := by cases r <;> rfl
@[simp] theorem run_setReg (s : State) (r : Reg) (v : Byte) : (s.setReg r v).run = s.run := by cases r <;> rfl
@[simp] theorem fault_setReg (s : State) (r : Reg) (v : Byte) : (s.setReg r v).fault = s.fault := by cases r <;> rfl
@[simp] theorem refused_setReg (s : State) (r : Reg) (v : Byte) : (s.setReg r v).refused = s.refused := by cases r <;> rfl
@[simp] theorem out_setReg (s : State) (r : Reg) (v : Byte) : (s.setReg r v).out = s.out := by cases r <;> rfl
@[simp] theorem params_setReg (s : State) (r : Reg) (v : Byte) : (s.setReg r v).params = s.params := by cases r <;> rfl

@[simp] theorem a_leave (s : State) (f : Fetched) : (s.leave f).a = s.a := by unfold State.leave; split <;> rfl
@[simp] theorem x_leave (s : State) (f : Fetched) : (s.leave f).x = s.x := by unfold State.leave; split <;> rfl
@[simp] theorem y_leave (s : State) (f : Fetched) : (s.leave f).y = s.y := by unfold State.leave; split <;> rfl
@[simp] theorem sp_leave (s : State) (f : Fetched) : (s.leave f).sp = s.sp := by unfold State.leave; split <;> rfl
@[simp] theorem p_leave (s : State) (f : Fetched) : (s.leave f).p = s.p := by unfold State.leave; split <;> rfl
@[simp] theorem pc_leave (s : State) (f : Fetched) : (s.leave f).pc = s.pc := by unfold State.leave; split <;> rfl
@[simp] theorem mem_leave (s : State) (f : Fetched) : (s.leave f).mem = s.mem := by unfold State.leave; split <;> rfl
@[simp] theorem run_leave (s : State) (f : Fetched) : (s.leave f).run = s.run := by unfold State.leave; split <;> rfl
@[simp] theorem fault_leave (s : State) (f : Fetched) : (s.leave f).fault = s.fault := by unfold State.leave; split <;> rfl
@[simp] theorem refused_leave (s : State) (f : Fetched) : (s.leave f).refused = s.refused := by unfold State.leave; split <;> rfl
@[simp] theorem params_leave (s : State) (f : Fetched) : (s.leave f).params = s.params := by unfold State.leave; split <;> rfl

/-- The register written reads as the value written. -/
@[simp] theorem reg_setReg_same (s : State) (r : Reg) (v : Byte) : (s.setReg r v).reg r = v := by cases r <;> rfl

/-- The other registers are left alone. -/
theorem reg_setReg_other (s : State) (r q : Reg) (v : Byte) (h : q ≠ r) : (s.setReg r v).reg q = s.reg q := by
  cases r <;> cases q <;> first | rfl | exact absurd rfl h

/-- An update that leaves the four registers alone leaves every named register alone. -/
theorem reg_congr {s t : State} (ha : t.a = s.a) (hx : t.x = s.x) (hy : t.y = s.y) (hsp : t.sp = s.sp) (q : Reg) :
    t.reg q = s.reg q := by
  cases q <;> assumption

@[simp] theorem reg_setNZ (s : State) (v : Byte) (q : Reg) : (s.setNZ v).reg q = s.reg q := reg_congr rfl rfl rfl rfl q

@[simp] theorem reg_setFlag (s : State) (f : Flag) (v : Bool) (q : Reg) : (s.setFlag f v).reg q = s.reg q :=
  reg_congr rfl rfl rfl rfl q

/-- The outputs of a step that did not fault. -/
theorem out_leave_of_none (s : State) (f : Fetched) (h : s.fault = none) :
    (s.leave f).out = { cycles := some (cycleCost s.params f.instr), events := s.out.events ++ [.instructionExecuted] } := by
  simp [State.leave, h]

/-- A faulted step returns no cost and no event. -/
theorem leave_of_fault (s : State) (f : Fetched) (r : Fault) (h : s.fault = some r) : s.leave f = s := by
  simp [State.leave, h]

end Sys2Proof.Machine
end

