-- ==== Sys2Proof/Laws/Operands.lean ====
section
/-! SUPPORT. The bounds-checked accesses, the resolver and the operand operations: when each answers, and with what
(spec/20_memory.md R62, spec/41_addressing.md). -/

namespace Sys2Proof.Machine

/-- A 16-bit address is inside the address space. -/
theorem inRange_word (w : Word) : inRange (w.toNat : Int) = true := by
  rw [inRange_iff]
  omega

/-- A read at a 16-bit address always answers. -/
@[simp] theorem memRead_word (s : State) (w : Word) : memRead s w.toNat = .ok (s.byteAt w) := by
  simp only [memRead, if_pos (inRange_word w), Int.toNat_natCast, State.byteAt]

/-- A write at a 16-bit address always answers. -/
@[simp] theorem memWrite_word (s : State) (w : Word) (v : Byte) :
    memWrite s w.toNat v = .ok { s with mem := s.mem.write w.toNat v } := by
  simp only [memWrite, if_pos (inRange_word w), Int.toNat_natCast]

/-- A read in range answers the byte there. -/
theorem memRead_of_lt (s : State) (n : Nat) (h : n < 65536) : memRead s (n : Int) = .ok (s.mem.read n) := by
  have hr : inRange (n : Int) = true := by rw [inRange_iff]; omega
  simp only [memRead, if_pos hr, Int.toNat_natCast]

/-- `Addr16` says everything: in range or wrapped the word of the sum, else OutOfRange of it (R164). -/
theorem addr16_cases {ovf : AddrOverflow} {v : Int} :
    (addr16 ovf v = .ok (BitVec.ofInt 16 v) ∧ ((0 ≤ v ∧ v ≤ 65535) ∨ ovf = .wrap16)) ∨
    (addr16 ovf v = .error (.outOfRange v) ∧ ¬ (0 ≤ v ∧ v ≤ 65535) ∧ ovf = .fault) := by
  unfold addr16
  rw [← inRange_iff]
  split
  · exact .inl ⟨rfl, .inl ‹_›⟩
  · cases ovf
    · exact .inr ⟨rfl, ‹_›, rfl⟩
    · exact .inl ⟨rfl, .inr rfl⟩

/-- The pointer of an indirect mode that starts in page zero always reads (R158, R159). -/
theorem readPointer_page_zero (s : State) (b : Byte) :
    readPointer s b.toNat (b.toNat + 1) = .ok (wordOf (s.mem.read b.toNat) (s.mem.read (b.toNat + 1))) := by
  have h1 := memRead_of_lt s b.toNat (by omega)
  have h2 := memRead_of_lt s (b.toNat + 1) (by omega)
  rw [Int.natCast_add] at h2
  rw [readPointer, h1]
  exact congrArg (fun r => r.bind fun hi => .ok (wordOf (s.mem.read b.toNat) hi)) h2

/-- INDIRECT reads the bytes at its pointer and at the next address, itself through `Addr16` (R156, R157). -/
theorem effectiveAddress_indirect (s : State) (ptr : Word) :
    effectiveAddress (.indirect ptr) s =
      (addr16 s.params.addrOverflow (ptr.toNat + 1)).map fun next => wordOf (s.byteAt ptr) (s.byteAt next) := by
  cases h : addr16 s.params.addrOverflow (ptr.toNat + 1) <;>
    simp only [effectiveAddress, memRead_word, h, bind, Except.bind, Except.map]

/-- INDIRECT_X reads the pointer at `zp + X` within page zero, and never faults (R158). -/
theorem effectiveAddress_indirectX (s : State) (zp : Byte) :
    effectiveAddress (.indirectX zp) s =
      .ok (wordOf (s.mem.read (zp + s.x).toNat) (s.mem.read ((zp + s.x).toNat + 1))) :=
  readPointer_page_zero s (zp + s.x)

/-- INDIRECT_Y adds Y to the pointer at `zp` through `Addr16` (R159). -/
theorem effectiveAddress_indirectY (s : State) (zp : Byte) :
    effectiveAddress (.indirectY zp) s =
      addr16 s.params.addrOverflow
        ((wordOf (s.mem.read zp.toNat) (s.mem.read (zp.toNat + 1))).toNat + s.y.toNat) := by
  simp only [effectiveAddress, readPointer_page_zero, bind, Except.bind]

/-- The resolver reads registers, memory and the parameter only: states that agree on X, Y, memory and the parameters resolve
alike (R150). -/
theorem effectiveAddress_congr {s t : State} (hx : t.x = s.x) (hy : t.y = s.y) (hm : t.mem = s.mem)
    (hp : t.params = s.params) (m : MemOperand) : effectiveAddress m t = effectiveAddress m s := by
  cases m <;> simp [effectiveAddress, readPointer, memRead, hx, hy, hm, hp]

/-- The operand read answers the immediate byte or the byte at the effective address, or the resolver's fault (R170). -/
theorem readOperand_memory (m : MemOperand) (s : State) :
    readOperand (.memory m) s = (effectiveAddress m s).map s.byteAt := by
  cases h : effectiveAddress m s <;> simp [readOperand, h, bind, Except.bind, Except.map]

/-- The operand write answers the state with the byte stored, or the resolver's fault (R171). -/
theorem writeOperand_eq (m : MemOperand) (v : Byte) (s : State) :
    writeOperand m v s = (effectiveAddress m s).map fun w => { s with mem := s.mem.write w.toNat v } := by
  cases h : effectiveAddress m s <;> simp [writeOperand, h, bind, Except.bind, Except.map]

/-- The read-modify-write of memory answers the state with the new byte and P, or the resolver's fault (R172, R321). -/
theorem modifyOperand_memory (m : MemOperand) (f : Byte → Byte → Byte × Byte) (s : State) :
    modifyOperand (.memory m) f s = (effectiveAddress m s).map fun w =>
      { s with mem := s.mem.write w.toNat (f s.p (s.byteAt w)).1, p := (f s.p (s.byteAt w)).2 } := by
  cases h : effectiveAddress m s <;> simp [modifyOperand, h, bind, Except.bind, Except.map]

end Sys2Proof.Machine
end

