-- ==== Sys2Proof/Laws/Exec.lean ====
section
/-! SUPPORT. The meanings seen through the 23 shared operations they call: `exec_eq_run` turns a case analysis over the 151
instructions into one over these, and one lemma per operation says everything it can answer. -/

namespace Sys2Proof.Machine

/-- The operation an instruction's meaning is built on, with its operands (the "semantic operation" of a descriptor, R93). -/
inductive Operation where
  | load (r : Reg) (o : Operand)
  | store (r : Reg) (m : MemOperand)
  | adc (o : Operand)
  | sbc (o : Operand)
  | compare (r : Reg) (o : Operand)
  | bitwise (op : Byte → Byte → Byte) (o : Operand)
  | bit (o : Operand)
  | jump (m : MemOperand)
  | branch (f : Flag) (v : Bool) (rel : Byte)
  | transfer (source target : Reg)
  | flag (f : Flag) (v : Bool)
  | modify (f : Byte → Byte → Byte × Byte) (o : RmwOperand)
  | register (f : Byte → Byte) (r : Reg)
  | pha
  | php
  | pla
  | plp
  | brk
  | nop
  | jsr (target : Word)
  | rts
  | rti

/-- What an operation does. -/
def Operation.run : Operation → State → Result
  | .load r o => Machine.load r o
  | .store r m => Machine.store r m
  | .adc o => addWithCarry o
  | .sbc o => subtractWithBorrow o
  | .compare r o => Machine.compare r o
  | .bitwise op o => Machine.bitwise op o
  | .bit o => bitTest o
  | .jump m => Machine.jump m
  | .branch f v rel => Machine.branch f v rel
  | .transfer source target => Machine.transfer source target
  | .flag f v => fun s => .next (s.setFlag f v)
  | .modify f o => readModifyWrite f o
  | .register f r => stepRegister f r
  | .pha => execPha
  | .php => execPhp
  | .pla => execPla
  | .plp => execPlp
  | .brk => execBrk
  | .nop => execNop
  | .jsr target => execJsr target
  | .rts => execRts
  | .rti => execRti

/-- The operation of each instruction. -/
def operationOf : Instr → Operation
  | .ldaImm imm => .load .a (.immediate imm)
  | .ldaZp zp => .load .a (.memory (.zeroPage zp))
  | .ldaZpX zp => .load .a (.memory (.zeroPageX zp))
  | .ldaAbs addr => .load .a (.memory (.absolute addr))
  | .ldaAbsX addr => .load .a (.memory (.absoluteX addr))
  | .ldaAbsY addr => .load .a (.memory (.absoluteY addr))
  | .ldaIndX zp => .load .a (.memory (.indirectX zp))
  | .ldaIndY zp => .load .a (.memory (.indirectY zp))
  | .ldxImm imm => .load .x (.immediate imm)
  | .ldxZp zp => .load .x (.memory (.zeroPage zp))
  | .ldxZpY zp => .load .x (.memory (.zeroPageY zp))
  | .ldxAbs addr => .load .x (.memory (.absolute addr))
  | .ldxAbsY addr => .load .x (.memory (.absoluteY addr))
  | .ldyImm imm => .load .y (.immediate imm)
  | .ldyZp zp => .load .y (.memory (.zeroPage zp))
  | .ldyZpX zp => .load .y (.memory (.zeroPageX zp))
  | .ldyAbs addr => .load .y (.memory (.absolute addr))
  | .ldyAbsX addr => .load .y (.memory (.absoluteX addr))
  | .staZp zp => .store .a (.zeroPage zp)
  | .staZpX zp => .store .a (.zeroPageX zp)
  | .staAbs addr => .store .a (.absolute addr)
  | .staAbsX addr => .store .a (.absoluteX addr)
  | .staAbsY addr => .store .a (.absoluteY addr)
  | .staIndX zp => .store .a (.indirectX zp)
  | .staIndY zp => .store .a (.indirectY zp)
  | .stxZp zp => .store .x (.zeroPage zp)
  | .stxZpY zp => .store .x (.zeroPageY zp)
  | .stxAbs addr => .store .x (.absolute addr)
  | .styZp zp => .store .y (.zeroPage zp)
  | .styZpX zp => .store .y (.zeroPageX zp)
  | .styAbs addr => .store .y (.absolute addr)
  | .adcImm imm => .adc (.immediate imm)
  | .adcZp zp => .adc (.memory (.zeroPage zp))
  | .adcZpX zp => .adc (.memory (.zeroPageX zp))
  | .adcAbs addr => .adc (.memory (.absolute addr))
  | .adcAbsX addr => .adc (.memory (.absoluteX addr))
  | .adcAbsY addr => .adc (.memory (.absoluteY addr))
  | .adcIndX zp => .adc (.memory (.indirectX zp))
  | .adcIndY zp => .adc (.memory (.indirectY zp))
  | .sbcImm imm => .sbc (.immediate imm)
  | .sbcZp zp => .sbc (.memory (.zeroPage zp))
  | .sbcZpX zp => .sbc (.memory (.zeroPageX zp))
  | .sbcAbs addr => .sbc (.memory (.absolute addr))
  | .sbcAbsX addr => .sbc (.memory (.absoluteX addr))
  | .sbcAbsY addr => .sbc (.memory (.absoluteY addr))
  | .sbcIndX zp => .sbc (.memory (.indirectX zp))
  | .sbcIndY zp => .sbc (.memory (.indirectY zp))
  | .cmpImm imm => .compare .a (.immediate imm)
  | .cmpZp zp => .compare .a (.memory (.zeroPage zp))
  | .cmpZpX zp => .compare .a (.memory (.zeroPageX zp))
  | .cmpAbs addr => .compare .a (.memory (.absolute addr))
  | .cmpAbsX addr => .compare .a (.memory (.absoluteX addr))
  | .cmpAbsY addr => .compare .a (.memory (.absoluteY addr))
  | .cmpIndX zp => .compare .a (.memory (.indirectX zp))
  | .cmpIndY zp => .compare .a (.memory (.indirectY zp))
  | .cpxImm imm => .compare .x (.immediate imm)
  | .cpxZp zp => .compare .x (.memory (.zeroPage zp))
  | .cpxAbs addr => .compare .x (.memory (.absolute addr))
  | .cpyImm imm => .compare .y (.immediate imm)
  | .cpyZp zp => .compare .y (.memory (.zeroPage zp))
  | .cpyAbs addr => .compare .y (.memory (.absolute addr))
  | .andImm imm => .bitwise andValue (.immediate imm)
  | .andZp zp => .bitwise andValue (.memory (.zeroPage zp))
  | .andZpX zp => .bitwise andValue (.memory (.zeroPageX zp))
  | .andAbs addr => .bitwise andValue (.memory (.absolute addr))
  | .andAbsX addr => .bitwise andValue (.memory (.absoluteX addr))
  | .andAbsY addr => .bitwise andValue (.memory (.absoluteY addr))
  | .andIndX zp => .bitwise andValue (.memory (.indirectX zp))
  | .andIndY zp => .bitwise andValue (.memory (.indirectY zp))
  | .eorImm imm => .bitwise eorValue (.immediate imm)
  | .eorZp zp => .bitwise eorValue (.memory (.zeroPage zp))
  | .eorZpX zp => .bitwise eorValue (.memory (.zeroPageX zp))
  | .eorAbs addr => .bitwise eorValue (.memory (.absolute addr))
  | .eorAbsX addr => .bitwise eorValue (.memory (.absoluteX addr))
  | .eorAbsY addr => .bitwise eorValue (.memory (.absoluteY addr))
  | .eorIndX zp => .bitwise eorValue (.memory (.indirectX zp))
  | .eorIndY zp => .bitwise eorValue (.memory (.indirectY zp))
  | .oraImm imm => .bitwise oraValue (.immediate imm)
  | .oraZp zp => .bitwise oraValue (.memory (.zeroPage zp))
  | .oraZpX zp => .bitwise oraValue (.memory (.zeroPageX zp))
  | .oraAbs addr => .bitwise oraValue (.memory (.absolute addr))
  | .oraAbsX addr => .bitwise oraValue (.memory (.absoluteX addr))
  | .oraAbsY addr => .bitwise oraValue (.memory (.absoluteY addr))
  | .oraIndX zp => .bitwise oraValue (.memory (.indirectX zp))
  | .oraIndY zp => .bitwise oraValue (.memory (.indirectY zp))
  | .bitZp zp => .bit (.memory (.zeroPage zp))
  | .bitAbs addr => .bit (.memory (.absolute addr))
  | .jmpAbs target => .jump (.absolute target)
  | .jmpInd ptr => .jump (.indirect ptr)
  | .bcc rel => .branch .c false rel
  | .bcs rel => .branch .c true rel
  | .beq rel => .branch .z true rel
  | .bmi rel => .branch .n true rel
  | .bne rel => .branch .z false rel
  | .bpl rel => .branch .n false rel
  | .bvc rel => .branch .v false rel
  | .bvs rel => .branch .v true rel
  | .tax => .transfer .a .x
  | .tay => .transfer .a .y
  | .txa => .transfer .x .a
  | .tya => .transfer .y .a
  | .txs => .transfer .x .sp
  | .tsx => .transfer .sp .x
  | .pha => .pha
  | .php => .php
  | .pla => .pla
  | .plp => .plp
  | .clc => .flag .c false
  | .sec => .flag .c true
  | .cli => .flag .i false
  | .sei => .flag .i true
  | .cld => .flag .d false
  | .sed => .flag .d true
  | .clv => .flag .v false
  | .brk => .brk
  | .nop => .nop
  | .aslAcc => .modify aslOp .accumulator
  | .aslZp zp => .modify aslOp (.memory (.zeroPage zp))
  | .aslZpX zp => .modify aslOp (.memory (.zeroPageX zp))
  | .aslAbs addr => .modify aslOp (.memory (.absolute addr))
  | .aslAbsX addr => .modify aslOp (.memory (.absoluteX addr))
  | .lsrAcc => .modify lsrOp .accumulator
  | .lsrZp zp => .modify lsrOp (.memory (.zeroPage zp))
  | .lsrZpX zp => .modify lsrOp (.memory (.zeroPageX zp))
  | .lsrAbs addr => .modify lsrOp (.memory (.absolute addr))
  | .lsrAbsX addr => .modify lsrOp (.memory (.absoluteX addr))
  | .rolAcc => .modify rolOp .accumulator
  | .rolZp zp => .modify rolOp (.memory (.zeroPage zp))
  | .rolZpX zp => .modify rolOp (.memory (.zeroPageX zp))
  | .rolAbs addr => .modify rolOp (.memory (.absolute addr))
  | .rolAbsX addr => .modify rolOp (.memory (.absoluteX addr))
  | .rorAcc => .modify rorOp .accumulator
  | .rorZp zp => .modify rorOp (.memory (.zeroPage zp))
  | .rorZpX zp => .modify rorOp (.memory (.zeroPageX zp))
  | .rorAbs addr => .modify rorOp (.memory (.absolute addr))
  | .rorAbsX addr => .modify rorOp (.memory (.absoluteX addr))
  | .incZp zp => .modify incOp (.memory (.zeroPage zp))
  | .incZpX zp => .modify incOp (.memory (.zeroPageX zp))
  | .incAbs addr => .modify incOp (.memory (.absolute addr))
  | .incAbsX addr => .modify incOp (.memory (.absoluteX addr))
  | .decZp zp => .modify decOp (.memory (.zeroPage zp))
  | .decZpX zp => .modify decOp (.memory (.zeroPageX zp))
  | .decAbs addr => .modify decOp (.memory (.absolute addr))
  | .decAbsX addr => .modify decOp (.memory (.absoluteX addr))
  | .inx => .register incByte .x
  | .iny => .register incByte .y
  | .dex => .register decByte .x
  | .dey => .register decByte .y
  | .jsr target => .jsr target
  | .rts => .rts
  | .rti => .rti

/-- An instruction's meaning is its operation. -/
theorem exec_eq_run (i : Instr) (s : State) : exec i s = (operationOf i).run s := by
  cases i <;> rfl

/-! ## What the operations that access memory answer -/

@[simp] theorem attempt_ok {α : Type} (s : State) (v : α) (k : α → State) : attempt s (.ok v) k = .next (k v) := rfl

@[simp] theorem attempt_error {α : Type} (s : State) (f : Fault) (k : α → State) :
    attempt s (.error f) k = .next (s.raise f) := rfl

/-- Everything `attempt` can answer. -/
theorem attempt_cases {α : Type} (s : State) (r : Except Fault α) (k : α → State) :
    (∃ v, r = .ok v ∧ attempt s r k = .next (k v)) ∨ (∃ f, r = .error f ∧ attempt s r k = .next (s.raise f)) := by
  cases r with
  | ok v => exact .inl ⟨v, rfl, rfl⟩
  | error f => exact .inr ⟨f, rfl, rfl⟩

/-- Mapping the access first changes nothing. -/
theorem attempt_map {α β : Type} (s : State) (r : Except Fault α) (g : α → β) (k : β → State) :
    attempt s (r.map g) k = attempt s r (fun v => k (g v)) := by
  cases r <;> rfl

/-- A store writes the byte at the effective address, or takes the resolver's fault. -/
theorem store_eq (r : Reg) (m : MemOperand) (s : State) :
    store r m s = attempt s (effectiveAddress m s) fun w => { s with mem := s.mem.write w.toNat (s.reg r) } := by
  rw [store, writeOperand_eq, attempt_map]
  rfl

/-- A read-modify-write of the accumulator always answers. -/
theorem readModifyWrite_accumulator (f : Byte → Byte → Byte × Byte) (s : State) :
    readModifyWrite f .accumulator s = .next { s with a := (f s.p s.a).1, p := (f s.p s.a).2 } := rfl

/-- A read-modify-write of memory replaces the byte at the effective address and P, or takes the resolver's fault. -/
theorem readModifyWrite_memory (f : Byte → Byte → Byte × Byte) (m : MemOperand) (s : State) :
    readModifyWrite f (.memory m) s = attempt s (effectiveAddress m s) fun w =>
      { s with mem := s.mem.write w.toNat (f s.p (s.byteAt w)).1, p := (f s.p (s.byteAt w)).2 } := by
  rw [readModifyWrite, modifyOperand_memory, attempt_map]
  rfl

/-! ## What no instruction touches -/

/-- What every meaning keeps: memory stays canonical, and REFUSED, the outputs and the parameters are left alone. -/
structure Kept (s t : State) : Prop where
  wf      : s.mem.wf → t.mem.wf
  refused : t.refused = s.refused
  out     : t.out = s.out
  params  : t.params = s.params

/-- An update of registers, P, PC, RUN or FAULT keeps all of it. -/
theorem Kept.of_eq {s t : State} (hm : t.mem = s.mem) (hr : t.refused = s.refused) (ho : t.out = s.out)
    (hp : t.params = s.params) : Kept s t := ⟨fun h => hm ▸ h, hr, ho, hp⟩

/-- An access keeps what its continuation keeps, since the fault it may take touches only FAULT. -/
theorem kept_of_attempt {α : Type} {s t : State} {r : Except Fault α} {k : α → State}
    (h : attempt s r k = .next t) (hk : ∀ v, Kept s (k v)) : Kept s t := by
  rcases attempt_cases s r k with ⟨v, -, hv⟩ | ⟨f, -, hf⟩
  · rw [hv] at h
    cases h
    exact hk v
  · rw [hf] at h
    cases h
    exact .of_eq rfl rfl rfl rfl

/-- No operation leaves memory out of canonical form or touches REFUSED, the outputs or the parameters. -/
theorem Operation.run_kept {op : Operation} {s t : State} (h : op.run s = .next t) : Kept s t := by
  cases op <;> simp only [Operation.run] at h
  case load r o => exact kept_of_attempt h (fun _ => .of_eq (by simp) (by simp) (by simp) (by simp))
  case store r m =>
    rw [store_eq] at h
    exact kept_of_attempt h (fun _ => ⟨fun hm => Memory.wf_write_word hm _ _, rfl, rfl, rfl⟩)
  case adc | sbc | compare | bitwise | bit | jump => exact kept_of_attempt h (fun _ => .of_eq rfl rfl rfl rfl)
  case branch f v rel =>
    unfold Machine.branch at h
    split at h
    · exact kept_of_attempt h (fun _ => .of_eq rfl rfl rfl rfl)
    · cases h
      exact .of_eq rfl rfl rfl rfl
  case modify f o =>
    cases o with
    | accumulator =>
      cases h
      exact .of_eq rfl rfl rfl rfl
    | memory m =>
      rw [readModifyWrite_memory] at h
      exact kept_of_attempt h (fun _ => ⟨fun hm => Memory.wf_write_word hm _ _, rfl, rfl, rfl⟩)
  case transfer | register =>
    cases h
    exact .of_eq (by simp) (by simp) (by simp) (by simp)
  case pha | php =>
    cases h
    exact ⟨fun hm => Memory.wf_push hm _, rfl, rfl, rfl⟩
  case jsr =>
    cases h
    exact ⟨fun hm => Memory.wf_push (Memory.wf_push hm _) _, rfl, rfl, rfl⟩
  all_goals
    cases h
    exact .of_eq rfl rfl rfl rfl

/-- No instruction leaves memory out of canonical form or touches REFUSED, the outputs or the parameters. -/
theorem exec_kept {i : Instr} {s t : State} (h : exec i s = .next t) : Kept s t :=
  Operation.run_kept (exec_eq_run i s ▸ h)

end Sys2Proof.Machine
end

