-- ==== Sys2Proof/Laws/Run.lean ====
section
/-! SUPPORT. What a turn of the batch run can do, and that a run, with or without the host, stays among the reachable states
(spec/40_engine.md R135 to R138). -/

namespace Sys2Proof.Machine

/-- A state the run does not step is returned as it is. -/
theorem runTurn_of_not_runs {s : State} (h : s.runs = false) (next : State → Option State) : s.runTurn next = some s := by
  simp [State.runTurn, h]

/-- A turn that steps goes on from the step's state. -/
theorem runTurn_of_step {s t : State} (h : s.runs = true) (ht : step s = .next t) (next : State → Option State) :
    s.runTurn next = next t := by
  simp [State.runTurn, h, ht]

/-- Everything a turn that answers a state can do: return the state, which it would not step, or make a step and go on. -/
theorem runTurn_cases {s u : State} {next : State → Option State} (h : s.runTurn next = some u) :
    (s.runs = false ∧ u = s) ∨ (s.runs = true ∧ ∃ t, step s = .next t ∧ next t = some u) := by
  unfold State.runTurn at h
  split at h
  · refine .inr ⟨‹_›, ?_⟩
    split at h
    · exact ⟨_, ‹_›, h⟩
    · cases h
    · cases h
  · exact .inl ⟨by simpa using ‹¬ s.runs = true›, by cases h; rfl⟩

/-- A turn keeps what the step keeps, if its continuation does. -/
theorem runTurn_keeps {P : State → Prop} (hstep : ∀ s t, P s → step s = .next t → P t) {next : State → Option State}
    (hnext : ∀ t u, P t → next t = some u → P u) {s u : State} (hs : P s) (h : s.runTurn next = some u) : P u := by
  rcases runTurn_cases h with ⟨-, rfl⟩ | ⟨-, t, ht, hu⟩
  · exact hs
  · exact hnext t u (hstep s t hs ht) hu

/-- A run keeps what every step keeps. -/
theorem batchRun_keeps {P : State → Prop} (hstep : ∀ s t, P s → step s = .next t → P t) {n : Nat} {s u : State} (hs : P s)
    (h : batchRun n s = some u) : P u := by
  induction n generalizing s u with
  | zero => exact runTurn_keeps hstep (fun _ _ _ hu => by cases hu) hs h
  | succ n ih => exact runTurn_keeps hstep (fun _ _ ht hu => ih ht hu) hs h

/-- A list of host actions keeps what every one of them keeps. -/
theorem hostActs_keeps {P : State → Prop} (hhost : ∀ a s t, P s → hostAct a s = some t → P t) {as : List HostAction}
    {s u : State} (hs : P s) (h : hostActs as s = some u) : P u := by
  induction as generalizing s with
  | nil => cases h; exact hs
  | cons a as ih =>
    obtain ⟨t, ht, hu⟩ := Option.bind_eq_some_iff.mp h
    exact ih (hhost a s t hs ht) hu

/-- A run during which the host acts keeps what every step and every host action keep. -/
theorem hostedRun_keeps {P : State → Prop} (hstep : ∀ s t, P s → step s = .next t → P t)
    (hhost : ∀ a s t, P s → hostAct a s = some t → P t) {plan : List (List HostAction)} {n : Nat} {s u : State} (hs : P s)
    (h : hostedRun plan n s = some u) : P u := by
  induction plan generalizing s u with
  | nil => exact batchRun_keeps hstep hs h
  | cons as plan ih =>
    obtain ⟨t, ht, hu⟩ := Option.bind_eq_some_iff.mp h
    exact runTurn_keeps hstep (fun _ _ ht hu => ih ht hu) (hostActs_keeps hhost hs ht) hu

/-- No action of the host but a reset touches the marks FAULT and REFUSED. -/
theorem hostAct_marks {h : HostAction} {s t : State} (ht : hostAct h s = some t) (hr : ∀ a x y, h ≠ .reset a x y) :
    t.fault = s.fault ∧ t.refused = s.refused := by
  cases h with
  | reset a x y => exact absurd rfl (hr a x y)
  | load bytes =>
    simp only [hostAct, hostLoad] at ht
    split at ht <;> cases ht
    exact ⟨rfl, rfl⟩
  | start | stop | peek | poke | settings => cases ht; exact ⟨rfl, rfl⟩

/-- Nor do any number of them. -/
theorem hostActs_marks {hs : List HostAction} {s t : State} (ht : hostActs hs s = some t)
    (hr : ∀ h ∈ hs, ∀ a x y, h ≠ .reset a x y) : t.fault = s.fault ∧ t.refused = s.refused := by
  induction hs generalizing s with
  | nil => cases ht; exact ⟨rfl, rfl⟩
  | cons h hs ih =>
    obtain ⟨u, hu, hv⟩ := Option.bind_eq_some_iff.mp ht
    obtain ⟨h1, h2⟩ := hostAct_marks hu (hr h (by simp))
    obtain ⟨h3, h4⟩ := ih hv fun g hg => hr g (by simp [hg])
    exact ⟨h3.trans h1, h4.trans h2⟩

/-- What a run leaves is reachable: the moves are its steps and the host's actions. -/
theorem hostedRun_reachable {p : Params} {plan : List (List HostAction)} {n : Nat} {s u : State} (hs : Reachable p s)
    (h : hostedRun plan n s = some u) : Reachable p u :=
  hostedRun_keeps (fun s t hs ht => .move s t hs (.step s t ht)) (fun a s t hs ht => .move s t hs (.host a s t ht)) hs h

end Sys2Proof.Machine
end

