-- ==== Sys2Proof/Laws/Step.lean ====
section
/-! SUPPORT. Everything a step can do: its inversion (spec/40_engine.md R122, R126, spec/60_exceptions.md R403). -/

namespace Sys2Proof.Machine

/-- A step that answers a next state started with neither mark set, and either refused an unlisted byte or executed the
instruction fetched. -/
theorem step_next_cases {s t : State} (h : step s = .next t) :
    s.fault = none ∧ s.refused = none ∧
    ((s.refusesFetch = true ∧ t = s.refuse) ∨
     (s.refusesFetch = false ∧ ∃ u, exec s.fetch.instr (s.enter s.fetch) = .next u ∧ t = u.leave s.fetch)) := by
  unfold step at h
  split at h
  · cases h
  · cases h
  · refine ⟨‹_›, ‹_›, ?_⟩
    split at h
    · exact .inl ⟨‹_›, by cases h; rfl⟩
    · refine .inr ⟨by simpa using ‹¬ s.refusesFetch = true›, ?_⟩
      split at h
      · exact ⟨_, ‹_›, by cases h; rfl⟩
      · cases h
      · cases h

/-- The step of an enabled state whose byte is not refused, given what the instruction fetched answers. -/
theorem step_of_exec {s u : State} (hf : s.fault = none) (hr : s.refused = none) (hn : s.refusesFetch = false)
    (hu : exec s.fetch.instr (s.enter s.fetch) = .next u) : step s = .next (u.leave s.fetch) := by
  simp [step, hf, hr, hn, hu]

end Sys2Proof.Machine
end

