-- ==== Sys2Proof/Tests/Slice0.lean ====
section
/-! SUPPORT. The model's own tests. Expected values come from the spec: the words and cycle counts from
spec/opcode_table.json, the steps from spec/95_test_vectors.md (the theorem's name is the vector's). The witnesses at the
end show, for each statement with hypotheses, a state and operands that meet them all. -/

namespace Sys2Proof.Tests

open Sys2Proof.Machine

/-! ## Helpers -/

/-- The start state of a vector: reset, PC at the code, the code there, the listed cells. -/
def startAt (p : Params) (pc : Word) (code : List Byte) (cells : List (Nat × Byte)) : State :=
  { State.reset with
    params := p
    pc := pc
    mem := storeBytes code pc (cells.foldl (fun m c => m.write c.1 c.2) []) }

/-- The state an outcome goes on in, if it does. -/
def nextOf (r : Result) : Option State :=
  match r with
  | .next t => some t
  | .fault _ => none
  | .refused _ => none

/-- The state after one step, the same state where there is none. -/
def after (s : State) : State := (nextOf (step s)).getD s

/-- The bytes are read as the instruction, with nothing left over, and it costs the cycles. -/
def readAs (rows : List (List Byte × Instr × Nat)) : Bool :=
  rows.all fun row =>
    match decode row.1 with
    | .ok (i, rest) => i == row.2.1 && rest.isEmpty && cycleCost Params.specDefault i == row.2.2
    | .error _ => false

/-! ## Checks that refuse ill-formed data -/

theorem test_wf_refuses_store_immediate : OpCode.wf ⟨.sta, .immediate⟩ = false := by decide

theorem test_wf_refuses_jsr_indirect : OpCode.wf ⟨.jsr, .indirect⟩ = false := by decide

theorem test_wf_refuses_zero_cycles : Params.wf { Params.specDefault with cycles := [(0xA9, 0)] } = false := by decide

theorem test_wf_refuses_an_image_too_long : imageWf (List.replicate 65537 0) = false := by
  simp only [imageWf, List.length_replicate]
  decide

theorem test_wf_refuses_unordered_memory : ¬ Memory.wf [(2, 1), (1, 1)] := by decide

theorem test_wf_refuses_a_listed_blank : ¬ Memory.wf [(2, 0)] := by decide

theorem test_wf_refuses_a_cell_outside : ¬ Memory.wf [(65536, 1)] := by decide

/-! ## Decoding and cycles, every row of spec/opcode_table.json: the words written out from its encoding column -/

/-- Loads (42_load_store.md R180 to R183). -/
theorem test_decode_loads_1 : readAs [
    ([0b10101001, 0xC5], .ldaImm 0xC5, 2), ([0b10100101, 0xC5], .ldaZp 0xC5, 3), ([0b10110101, 0xC5], .ldaZpX 0xC5, 4),
    ([0b10101101, 0x34, 0x12], .ldaAbs 0x1234, 4), ([0b10111101, 0x34, 0x12], .ldaAbsX 0x1234, 4), ([0b10111001, 0x34, 0x12], .ldaAbsY 0x1234, 4),
    ([0b10100001, 0xC5], .ldaIndX 0xC5, 6), ([0b10110001, 0xC5], .ldaIndY 0xC5, 5), ([0b10100010, 0xC5], .ldxImm 0xC5, 2),
    ([0b10100110, 0xC5], .ldxZp 0xC5, 3), ([0b10110110, 0xC5], .ldxZpY 0xC5, 4), ([0b10101110, 0x34, 0x12], .ldxAbs 0x1234, 4),
    ([0b10111110, 0x34, 0x12], .ldxAbsY 0x1234, 4), ([0b10100000, 0xC5], .ldyImm 0xC5, 2)] = true := by decide

/-- Loads (42_load_store.md R180 to R183). -/
theorem test_decode_loads_2 : readAs [
    ([0b10100100, 0xC5], .ldyZp 0xC5, 3), ([0b10110100, 0xC5], .ldyZpX 0xC5, 4), ([0b10101100, 0x34, 0x12], .ldyAbs 0x1234, 4),
    ([0b10111100, 0x34, 0x12], .ldyAbsX 0x1234, 4)] = true := by decide

/-- Stores (42_load_store.md R184 to R187). -/
theorem test_decode_stores : readAs [
    ([0b10000101, 0xC5], .staZp 0xC5, 3), ([0b10010101, 0xC5], .staZpX 0xC5, 4), ([0b10001101, 0x34, 0x12], .staAbs 0x1234, 4),
    ([0b10011101, 0x34, 0x12], .staAbsX 0x1234, 5), ([0b10011001, 0x34, 0x12], .staAbsY 0x1234, 5), ([0b10000001, 0xC5], .staIndX 0xC5, 6),
    ([0b10010001, 0xC5], .staIndY 0xC5, 6), ([0b10000110, 0xC5], .stxZp 0xC5, 3), ([0b10010110, 0xC5], .stxZpY 0xC5, 4),
    ([0b10001110, 0x34, 0x12], .stxAbs 0x1234, 4), ([0b10000100, 0xC5], .styZp 0xC5, 3), ([0b10010100, 0xC5], .styZpX 0xC5, 4),
    ([0b10001100, 0x34, 0x12], .styAbs 0x1234, 4)] = true := by decide

/-- Add and subtract (43_alu.md R210, R212). -/
theorem test_decode_add_and_subtract_1 : readAs [
    ([0b01101001, 0xC5], .adcImm 0xC5, 2), ([0b01100101, 0xC5], .adcZp 0xC5, 3), ([0b01110101, 0xC5], .adcZpX 0xC5, 4),
    ([0b01101101, 0x34, 0x12], .adcAbs 0x1234, 4), ([0b01111101, 0x34, 0x12], .adcAbsX 0x1234, 4), ([0b01111001, 0x34, 0x12], .adcAbsY 0x1234, 4),
    ([0b01100001, 0xC5], .adcIndX 0xC5, 6), ([0b01110001, 0xC5], .adcIndY 0xC5, 5), ([0b11101001, 0xC5], .sbcImm 0xC5, 2),
    ([0b11100101, 0xC5], .sbcZp 0xC5, 3), ([0b11110101, 0xC5], .sbcZpX 0xC5, 4), ([0b11101101, 0x34, 0x12], .sbcAbs 0x1234, 4),
    ([0b11111101, 0x34, 0x12], .sbcAbsX 0x1234, 4), ([0b11111001, 0x34, 0x12], .sbcAbsY 0x1234, 4)] = true := by decide

/-- Add and subtract (43_alu.md R210, R212). -/
theorem test_decode_add_and_subtract_2 : readAs [
    ([0b11100001, 0xC5], .sbcIndX 0xC5, 6), ([0b11110001, 0xC5], .sbcIndY 0xC5, 5)] = true := by decide

/-- Compares (43_alu.md R214 to R217). -/
theorem test_decode_compares : readAs [
    ([0b11001001, 0xC5], .cmpImm 0xC5, 2), ([0b11000101, 0xC5], .cmpZp 0xC5, 3), ([0b11010101, 0xC5], .cmpZpX 0xC5, 4),
    ([0b11001101, 0x34, 0x12], .cmpAbs 0x1234, 4), ([0b11011101, 0x34, 0x12], .cmpAbsX 0x1234, 4), ([0b11011001, 0x34, 0x12], .cmpAbsY 0x1234, 4),
    ([0b11000001, 0xC5], .cmpIndX 0xC5, 6), ([0b11010001, 0xC5], .cmpIndY 0xC5, 5), ([0b11100000, 0xC5], .cpxImm 0xC5, 2),
    ([0b11100100, 0xC5], .cpxZp 0xC5, 3), ([0b11101100, 0x34, 0x12], .cpxAbs 0x1234, 4), ([0b11000000, 0xC5], .cpyImm 0xC5, 2),
    ([0b11000100, 0xC5], .cpyZp 0xC5, 3), ([0b11001100, 0x34, 0x12], .cpyAbs 0x1234, 4)] = true := by decide

/-- Bitwise operations (43_alu.md R219 to R222). -/
theorem test_decode_bitwise_operations_1 : readAs [
    ([0b00101001, 0xC5], .andImm 0xC5, 2), ([0b00100101, 0xC5], .andZp 0xC5, 3), ([0b00110101, 0xC5], .andZpX 0xC5, 4),
    ([0b00101101, 0x34, 0x12], .andAbs 0x1234, 4), ([0b00111101, 0x34, 0x12], .andAbsX 0x1234, 4), ([0b00111001, 0x34, 0x12], .andAbsY 0x1234, 4),
    ([0b00100001, 0xC5], .andIndX 0xC5, 6), ([0b00110001, 0xC5], .andIndY 0xC5, 5), ([0b01001001, 0xC5], .eorImm 0xC5, 2),
    ([0b01000101, 0xC5], .eorZp 0xC5, 3), ([0b01010101, 0xC5], .eorZpX 0xC5, 4), ([0b01001101, 0x34, 0x12], .eorAbs 0x1234, 4),
    ([0b01011101, 0x34, 0x12], .eorAbsX 0x1234, 4), ([0b01011001, 0x34, 0x12], .eorAbsY 0x1234, 4)] = true := by decide

/-- Bitwise operations (43_alu.md R219 to R222). -/
theorem test_decode_bitwise_operations_2 : readAs [
    ([0b01000001, 0xC5], .eorIndX 0xC5, 6), ([0b01010001, 0xC5], .eorIndY 0xC5, 5), ([0b00001001, 0xC5], .oraImm 0xC5, 2),
    ([0b00000101, 0xC5], .oraZp 0xC5, 3), ([0b00010101, 0xC5], .oraZpX 0xC5, 4), ([0b00001101, 0x34, 0x12], .oraAbs 0x1234, 4),
    ([0b00011101, 0x34, 0x12], .oraAbsX 0x1234, 4), ([0b00011001, 0x34, 0x12], .oraAbsY 0x1234, 4), ([0b00000001, 0xC5], .oraIndX 0xC5, 6),
    ([0b00010001, 0xC5], .oraIndY 0xC5, 5)] = true := by decide

/-- BIT test (43_alu.md R225). -/
theorem test_decode_bit_test : readAs [
    ([0b00100100, 0xC5], .bitZp 0xC5, 3), ([0b00101100, 0x34, 0x12], .bitAbs 0x1234, 4)] = true := by decide

/-- Jump (44_control.md R260). -/
theorem test_decode_jump : readAs [
    ([0b01001100, 0x34, 0x12], .jmpAbs 0x1234, 3), ([0b01101100, 0x34, 0x12], .jmpInd 0x1234, 5)] = true := by decide

/-- Branches (44_control.md R261 to R270). -/
theorem test_decode_branches : readAs [
    ([0b10010000, 0xC5], .bcc 0xC5, 2), ([0b10110000, 0xC5], .bcs 0xC5, 2), ([0b11110000, 0xC5], .beq 0xC5, 2),
    ([0b00110000, 0xC5], .bmi 0xC5, 2), ([0b11010000, 0xC5], .bne 0xC5, 2), ([0b00010000, 0xC5], .bpl 0xC5, 2),
    ([0b01010000, 0xC5], .bvc 0xC5, 2), ([0b01110000, 0xC5], .bvs 0xC5, 2)] = true := by decide

/-- Transfers (45_transfer_stack_flags.md R280 to R286). -/
theorem test_decode_transfers : readAs [
    ([0b10101010], .tax, 2), ([0b10101000], .tay, 2), ([0b10001010], .txa, 2),
    ([0b10011000], .tya, 2), ([0b10011010], .txs, 2), ([0b10111010], .tsx, 2)] = true := by decide

/-- Stack (45_transfer_stack_flags.md R290 to R294). -/
theorem test_decode_stack : readAs [
    ([0b01001000], .pha, 3), ([0b00001000], .php, 3), ([0b01101000], .pla, 4),
    ([0b00101000], .plp, 4)] = true := by decide

/-- Flag set and clear (45_transfer_stack_flags.md R295 to R302). -/
theorem test_decode_flag_set_and_clear : readAs [
    ([0b00011000], .clc, 2), ([0b00111000], .sec, 2), ([0b01011000], .cli, 2),
    ([0b01111000], .sei, 2), ([0b11011000], .cld, 2), ([0b11111000], .sed, 2),
    ([0b10111000], .clv, 2)] = true := by decide

/-- Break and no-op (45_transfer_stack_flags.md R305, R308). -/
theorem test_decode_break_and_no_op : readAs [
    ([0b00000000], .brk, 7), ([0b11101010], .nop, 2)] = true := by decide

/-- Shifts and rotates (46_unlisted.md R321 to R325). -/
theorem test_decode_shifts_and_rotates_1 : readAs [
    ([0b00001010], .aslAcc, 2), ([0b00000110, 0xC5], .aslZp 0xC5, 5), ([0b00010110, 0xC5], .aslZpX 0xC5, 6),
    ([0b00001110, 0x34, 0x12], .aslAbs 0x1234, 6), ([0b00011110, 0x34, 0x12], .aslAbsX 0x1234, 7), ([0b01001010], .lsrAcc, 2),
    ([0b01000110, 0xC5], .lsrZp 0xC5, 5), ([0b01010110, 0xC5], .lsrZpX 0xC5, 6), ([0b01001110, 0x34, 0x12], .lsrAbs 0x1234, 6),
    ([0b01011110, 0x34, 0x12], .lsrAbsX 0x1234, 7), ([0b00101010], .rolAcc, 2), ([0b00100110, 0xC5], .rolZp 0xC5, 5),
    ([0b00110110, 0xC5], .rolZpX 0xC5, 6), ([0b00101110, 0x34, 0x12], .rolAbs 0x1234, 6)] = true := by decide

/-- Shifts and rotates (46_unlisted.md R321 to R325). -/
theorem test_decode_shifts_and_rotates_2 : readAs [
    ([0b00111110, 0x34, 0x12], .rolAbsX 0x1234, 7), ([0b01101010], .rorAcc, 2), ([0b01100110, 0xC5], .rorZp 0xC5, 5),
    ([0b01110110, 0xC5], .rorZpX 0xC5, 6), ([0b01101110, 0x34, 0x12], .rorAbs 0x1234, 6), ([0b01111110, 0x34, 0x12], .rorAbsX 0x1234, 7)] = true := by decide

/-- Memory increment and decrement (46_unlisted.md R326, R327). -/
theorem test_decode_memory_increment_and_decrement : readAs [
    ([0b11100110, 0xC5], .incZp 0xC5, 5), ([0b11110110, 0xC5], .incZpX 0xC5, 6), ([0b11101110, 0x34, 0x12], .incAbs 0x1234, 6),
    ([0b11111110, 0x34, 0x12], .incAbsX 0x1234, 7), ([0b11000110, 0xC5], .decZp 0xC5, 5), ([0b11010110, 0xC5], .decZpX 0xC5, 6),
    ([0b11001110, 0x34, 0x12], .decAbs 0x1234, 6), ([0b11011110, 0x34, 0x12], .decAbsX 0x1234, 7)] = true := by decide

/-- Register increment and decrement (46_unlisted.md R329 to R332). -/
theorem test_decode_register_increment_and_decrement : readAs [
    ([0b11101000], .inx, 2), ([0b11001000], .iny, 2), ([0b11001010], .dex, 2),
    ([0b10001000], .dey, 2)] = true := by decide

/-- Subroutines and return from interrupt (46_unlisted.md R334 to R336). -/
theorem test_decode_subroutines_and_return_from_interrupt : readAs [
    ([0b00100000, 0x34, 0x12], .jsr 0x1234, 6), ([0b01100000], .rts, 6), ([0b01000000], .rti, 6)] = true := by decide

/-- Truncated words and undefined bytes are refused by name (R96, R99). -/
theorem test_decode_rejects :
    decode [] = .error .truncated ∧ decode [0xAD, 0x34] = .error .truncated ∧
    decode [0xFF, 0x12, 0x34] = .error (.undefinedByte 0xFF) := ⟨rfl, rfl, rfl⟩

/-- The table's numbering of bits, an operand above the row's bits read as zero. -/
theorem test_decode_table_word :
    decodeTableWord 24 0x1234AD = some (.ldaAbs 0x1234) ∧ decodeTableWord 8 0x55A9 = some (.ldaImm 0) ∧
    decodeTableWord 8 0x02 = none := by decide

/-- The placed word is the instruction the next step runs. -/
theorem test_with_fetch_word : (after (State.reset.withFetchWord 16 0x69A9)).a = 0x69 := by decide

/-! ## Steps of spec/95_test_vectors.md, section 2 -/

/-! ### Addressing modes (section "Addressing modes") -/

theorem test_am1 : let t := after (startAt Params.specDefault 0x0200 [0xA5, 0x10] [(0x0010, 0x42)]);
    t.a = 0x42 ∧ t.p = 0x00 ∧ t.pc = 0x0202 ∧ t.out.cycles = some 3 := by decide

theorem test_am2 : let t := after { startAt Params.specDefault 0x0200 [0xB5, 0xF8] [(0x0008, 0x99), (0x0108, 0x11)] with x := 0x10 };
    t.a = 0x99 ∧ t.p = 0x80 ∧ t.pc = 0x0202 ∧ t.out.cycles = some 4 := by decide

theorem test_am3 : let t := after { startAt Params.specDefault 0x0200 [0xB6, 0xFF] [(0x0001, 0x7E)] with y := 0x02 };
    t.x = 0x7E ∧ t.p = 0x00 ∧ t.pc = 0x0202 ∧ t.out.cycles = some 4 := by decide

theorem test_am4 : let t := after (startAt Params.specDefault 0x0200 [0xAD, 0x34, 0x12] [(0x1234, 0x01)]);
    t.a = 0x01 ∧ t.p = 0x00 ∧ t.pc = 0x0203 ∧ t.out.cycles = some 4 := by decide

theorem test_am5 : let t := after { startAt Params.specDefault 0x0200 [0xBD, 0x01, 0x12] [(0x1300, 0x80)] with x := 0xFF };
    t.a = 0x80 ∧ t.p = 0x80 ∧ t.pc = 0x0203 ∧ t.out.cycles = some 4 := by decide

theorem test_am6 : let t := after { startAt Params.specDefault 0x0200 [0xBD, 0xFF, 0xFF] [(0x0000, 0x5A)] with x := 0x01 };
    t.pc = 0x0203 ∧ t.fault = some (.outOfRange 0x10000) ∧ t.out.cycles = none ∧ t.out.events = [] := by decide

theorem test_am7 : let t := after { startAt { Params.specDefault with addrOverflow := .wrap16 } 0x0200 [0xBD, 0xFF, 0xFF] [(0x0000, 0x5A)] with x := 0x01 };
    t.a = 0x5A ∧ t.p = 0x00 ∧ t.pc = 0x0203 ∧ t.out.cycles = some 4 := by decide

theorem test_am8 : let t := after { startAt Params.specDefault 0x0200 [0xB9, 0xF0, 0xFF] [] with y := 0x20 };
    t.pc = 0x0203 ∧ t.fault = some (.outOfRange 0x10010) ∧ t.out.cycles = none ∧ t.out.events = [] := by decide

theorem test_am9 : let t := after { startAt Params.specDefault 0x0200 [0xA1, 0x20] [(0x0024, 0x00), (0x0025, 0x30), (0x3000, 0x5A)] with x := 0x04 };
    t.a = 0x5A ∧ t.p = 0x00 ∧ t.pc = 0x0202 ∧ t.out.cycles = some 6 := by decide

theorem test_am10 : let t := after { startAt Params.specDefault 0x0200 [0xA1, 0xFF] [(0x0000, 0x00), (0x0001, 0x31), (0x3100, 0x22)] with x := 0x01 };
    t.a = 0x22 ∧ t.p = 0x00 ∧ t.pc = 0x0202 ∧ t.out.cycles = some 6 := by decide

theorem test_am11 : let t := after { startAt Params.specDefault 0x0200 [0xA1, 0xFF] [(0x0000, 0x50), (0x00FF, 0x00), (0x0100, 0x40), (0x4000, 0x77), (0x5000, 0x66)] with x := 0x00 };
    t.a = 0x77 ∧ t.p = 0x00 ∧ t.pc = 0x0202 ∧ t.out.cycles = some 6 := by decide

theorem test_am12 : let t := after { startAt Params.specDefault 0x0200 [0xB1, 0x40] [(0x0040, 0xF0), (0x0041, 0x12), (0x1310, 0x09)] with y := 0x20 };
    t.a = 0x09 ∧ t.p = 0x00 ∧ t.pc = 0x0202 ∧ t.out.cycles = some 5 := by decide

theorem test_am13 : let t := after { startAt Params.specDefault 0x0200 [0xB1, 0xFF] [(0x00FF, 0x00), (0x0100, 0x20), (0x2001, 0x44)] with y := 0x01 };
    t.a = 0x44 ∧ t.p = 0x00 ∧ t.pc = 0x0202 ∧ t.out.cycles = some 5 := by decide

theorem test_am14 : let t := after { startAt Params.specDefault 0x0200 [0xB1, 0x40] [(0x0040, 0xF0), (0x0041, 0xFF)] with y := 0x20 };
    t.pc = 0x0202 ∧ t.fault = some (.outOfRange 0x10010) ∧ t.out.cycles = none ∧ t.out.events = [] := by decide

theorem test_am15 : let t := after { startAt { Params.specDefault with addrOverflow := .wrap16 } 0x0200 [0xB1, 0x40] [(0x0010, 0x3C), (0x0040, 0xF0), (0x0041, 0xFF)] with y := 0x20 };
    t.a = 0x3C ∧ t.p = 0x00 ∧ t.pc = 0x0202 ∧ t.out.cycles = some 5 := by decide

theorem test_am16 : let t := after (startAt Params.specDefault 0x0200 [0x6C, 0xFF, 0x12] [(0x1200, 0x50), (0x12FF, 0x00), (0x1300, 0x40)]);
    t.p = 0x00 ∧ t.pc = 0x4000 ∧ t.out.cycles = some 5 := by decide

theorem test_am17 : let t := after (startAt Params.specDefault 0x0200 [0x6C, 0xFF, 0xFF] [(0x0000, 0x12), (0xFFFF, 0x34)]);
    t.pc = 0x0203 ∧ t.fault = some (.outOfRange 0x10000) ∧ t.out.cycles = none ∧ t.out.events = [] := by decide

theorem test_am18 : let t := after (startAt { Params.specDefault with addrOverflow := .wrap16 } 0x0200 [0x6C, 0xFF, 0xFF] [(0x0000, 0x12), (0xFFFF, 0x34)]);
    t.p = 0x00 ∧ t.pc = 0x1234 ∧ t.out.cycles = some 5 := by decide

/-! ### Loads and stores -/

theorem test_ls1 : let t := after { startAt Params.specDefault 0x0200 [0xA9, 0x00] [] with a := 0x37, p := 0x41 };
    t.a = 0x00 ∧ t.p = 0x43 ∧ t.pc = 0x0202 ∧ t.out.cycles = some 2 := by decide

theorem test_ls3 : let t := after { startAt Params.specDefault 0x0200 [0xA2, 0x00] [] with x := 0x05 };
    t.x = 0x00 ∧ t.p = 0x02 ∧ t.pc = 0x0202 ∧ t.out.cycles = some 2 := by decide

theorem test_ls4 : let t := after (startAt Params.specDefault 0x0200 [0xA0, 0xFF] []);
    t.y = 0xFF ∧ t.p = 0x80 ∧ t.pc = 0x0202 ∧ t.out.cycles = some 2 := by decide

theorem test_ls6 : let t := after { startAt Params.specDefault 0x0200 [0xBE, 0x00, 0x30] [(0x3005, 0x00)] with x := 0x09, y := 0x05 };
    t.x = 0x00 ∧ t.p = 0x02 ∧ t.pc = 0x0203 ∧ t.out.cycles = some 4 := by decide

theorem test_ls7 : let t := after { startAt Params.specDefault 0x0200 [0x85, 0x10] [] with a := 0x55, p := 0xC3 };
    t.p = 0xC3 ∧ t.pc = 0x0202 ∧ t.mem.read 0x0010 = 0x55 ∧ t.out.cycles = some 3 := by decide

theorem test_ls8 : let t := after { startAt Params.specDefault 0x0200 [0x8E, 0x00, 0x30] [] with x := 0x80 };
    t.p = 0x00 ∧ t.pc = 0x0203 ∧ t.mem.read 0x3000 = 0x80 ∧ t.out.cycles = some 4 := by decide

theorem test_ls9 : let t := after { startAt Params.specDefault 0x0200 [0x94, 0xF0] [] with y := 0x12, x := 0x20 };
    t.p = 0x00 ∧ t.pc = 0x0202 ∧ t.mem.read 0x0010 = 0x12 ∧ t.out.cycles = some 4 := by decide

theorem test_ls10 : let t := after { startAt Params.specDefault 0x0200 [0x96, 0xFF] [] with x := 0x34, y := 0x01 };
    t.p = 0x00 ∧ t.pc = 0x0202 ∧ t.mem.read 0x0000 = 0x34 ∧ t.out.cycles = some 4 := by decide

theorem test_ls11 : let t := after { startAt Params.specDefault 0x0200 [0x9D, 0xFF, 0xFF] [] with a := 0x11, x := 0x01 };
    t.pc = 0x0203 ∧ t.fault = some (.outOfRange 0x10000) ∧ t.out.cycles = none ∧ t.out.events = [] := by decide

theorem test_ls12 : let t := after { startAt Params.specDefault 0x0200 [0x91, 0x40] [(0x0040, 0x00), (0x0041, 0x04)] with a := 0xAB, y := 0x03 };
    t.p = 0x00 ∧ t.pc = 0x0202 ∧ t.mem.read 0x0403 = 0xAB ∧ t.out.cycles = some 6 := by decide

theorem test_ls13 : let t := after { startAt Params.specDefault 0x0200 [0x81, 0x40] [(0x0042, 0x10), (0x0043, 0x05)] with a := 0xCD, x := 0x02 };
    t.p = 0x00 ∧ t.pc = 0x0202 ∧ t.mem.read 0x0510 = 0xCD ∧ t.out.cycles = some 6 := by decide

/-! ### ADC -/

theorem test_adc1 : let t := after { startAt Params.specDefault 0x0200 [0x69, 0x01] [] with a := 0x7F, p := 0x00 };
    t.a = 0x80 ∧ t.p = 0xC1 ∧ t.pc = 0x0202 ∧ t.out.cycles = some 2 := by decide

theorem test_adc3 : let t := after { startAt Params.specDefault 0x0200 [0x69, 0x01] [] with a := 0xFF, p := 0x00 };
    t.a = 0x00 ∧ t.p = 0x02 ∧ t.pc = 0x0202 ∧ t.out.cycles = some 2 := by decide

theorem test_adc6 : let t := after { startAt Params.specDefault 0x0200 [0x69, 0x00] [] with a := 0x7F, p := 0x01 };
    t.a = 0x80 ∧ t.p = 0xC1 ∧ t.pc = 0x0202 ∧ t.out.cycles = some 2 := by decide

theorem test_adc7 : let t := after { startAt Params.specDefault 0x0200 [0x69, 0xFF] [] with a := 0xFF, p := 0x01 };
    t.p = 0x80 ∧ t.pc = 0x0202 ∧ t.out.cycles = some 2 := by decide

theorem test_adc11 : let t := after { startAt Params.specDefault 0x0200 [0x69, 0x05] [] with a := 0x05, p := 0x08 };
    t.a = 0x0A ∧ t.p = 0x08 ∧ t.pc = 0x0202 ∧ t.out.cycles = some 2 := by decide

theorem test_adc12 : let t := after { startAt Params.specDefault 0x0200 [0x7D, 0xFF, 0xFF] [] with a := 0x05, x := 0x01 };
    t.pc = 0x0203 ∧ t.fault = some (.outOfRange 0x10000) ∧ t.out.cycles = none ∧ t.out.events = [] := by decide

/-! ### SBC -/

theorem test_sbc1 : let t := after { startAt Params.specDefault 0x0200 [0xE9, 0x03] [] with a := 0x05, p := 0x01 };
    t.a = 0x02 ∧ t.p = 0x01 ∧ t.pc = 0x0202 ∧ t.out.cycles = some 2 := by decide

theorem test_sbc2 : let t := after { startAt Params.specDefault 0x0200 [0xE9, 0x05] [] with a := 0x03, p := 0x01 };
    t.a = 0xFE ∧ t.p = 0x81 ∧ t.pc = 0x0202 ∧ t.out.cycles = some 2 := by decide

theorem test_sbc3 : let t := after { startAt Params.specDefault 0x0200 [0xE9, 0x01] [] with a := 0x80, p := 0x01 };
    t.a = 0x7F ∧ t.p = 0x40 ∧ t.pc = 0x0202 ∧ t.out.cycles = some 2 := by decide

theorem test_sbc5 : let t := after { startAt Params.specDefault 0x0200 [0xE9, 0x00] [] with a := 0x00, p := 0x00 };
    t.a = 0xFF ∧ t.p = 0x81 ∧ t.pc = 0x0202 ∧ t.out.cycles = some 2 := by decide

/-! ### Compares -/

theorem test_cp1 : let t := after { startAt Params.specDefault 0x0200 [0xC9, 0x05] [] with a := 0x05 };
    t.p = 0x03 ∧ t.pc = 0x0202 ∧ t.out.cycles = some 2 := by decide

theorem test_cp2 : let t := after { startAt Params.specDefault 0x0200 [0xC9, 0x01] [] with a := 0x00 };
    t.p = 0x80 ∧ t.pc = 0x0202 ∧ t.out.cycles = some 2 := by decide

theorem test_cp3 : let t := after { startAt Params.specDefault 0x0200 [0xC9, 0x00] [] with a := 0x80 };
    t.p = 0x81 ∧ t.pc = 0x0202 ∧ t.out.cycles = some 2 := by decide

theorem test_cp7 : let t := after { startAt Params.specDefault 0x0200 [0xE4, 0x10] [(0x0010, 0x05)] with x := 0x04 };
    t.p = 0x80 ∧ t.pc = 0x0202 ∧ t.out.cycles = some 3 := by decide

theorem test_cp9 : let t := after { startAt Params.specDefault 0x0200 [0xCC, 0x00, 0x30] [(0x3000, 0x00)] with y := 0x00 };
    t.p = 0x03 ∧ t.pc = 0x0203 ∧ t.out.cycles = some 4 := by decide

/-! ### AND, EOR, ORA, BIT -/

theorem test_bw1 : let t := after { startAt Params.specDefault 0x0200 [0x29, 0x3C] [] with a := 0xF0 };
    t.a = 0x30 ∧ t.p = 0x00 ∧ t.pc = 0x0202 ∧ t.out.cycles = some 2 := by decide

theorem test_bw3 : let t := after { startAt Params.specDefault 0x0200 [0x49, 0xFF] [] with a := 0xF0 };
    t.a = 0x0F ∧ t.p = 0x00 ∧ t.pc = 0x0202 ∧ t.out.cycles = some 2 := by decide

theorem test_bw5 : let t := after { startAt Params.specDefault 0x0200 [0x09, 0x80] [] with a := 0x01 };
    t.a = 0x81 ∧ t.p = 0x80 ∧ t.pc = 0x0202 ∧ t.out.cycles = some 2 := by decide

theorem test_bw7 : let t := after { startAt Params.specDefault 0x0200 [0x24, 0x10] [(0x0010, 0xC0)] with a := 0x00 };
    t.p = 0xC2 ∧ t.pc = 0x0202 ∧ t.out.cycles = some 3 := by decide

theorem test_bw8 : let t := after { startAt Params.specDefault 0x0200 [0x2C, 0x00, 0x30] [(0x3000, 0x30)] with a := 0x0F, p := 0xC1 };
    t.p = 0x03 ∧ t.pc = 0x0203 ∧ t.out.cycles = some 4 := by decide

/-! ### Jumps and branches -/

theorem test_ct1 : let t := after (startAt Params.specDefault 0x0200 [0x4C, 0x34, 0x12] []);
    t.p = 0x00 ∧ t.pc = 0x1234 ∧ t.out.cycles = some 3 := by decide

theorem test_ct4 : let t := after { startAt Params.specDefault 0x0200 [0x90, 0x10] [] with p := 0x00 };
    t.p = 0x00 ∧ t.pc = 0x0212 ∧ t.out.cycles = some 2 := by decide

theorem test_ct5 : let t := after { startAt Params.specDefault 0x0200 [0x90, 0x10] [] with p := 0x01 };
    t.p = 0x01 ∧ t.pc = 0x0202 ∧ t.out.cycles = some 2 := by decide

theorem test_ct6 : let t := after { startAt Params.specDefault 0x0200 [0xB0, 0x10] [] with p := 0x01 };
    t.p = 0x01 ∧ t.pc = 0x0212 ∧ t.out.cycles = some 2 := by decide

theorem test_ct8 : let t := after { startAt Params.specDefault 0x0200 [0xF0, 0x10] [] with p := 0x02 };
    t.p = 0x02 ∧ t.pc = 0x0212 ∧ t.out.cycles = some 2 := by decide

theorem test_ct10 : let t := after { startAt Params.specDefault 0x0200 [0x30, 0x10] [] with p := 0x80 };
    t.p = 0x80 ∧ t.pc = 0x0212 ∧ t.out.cycles = some 2 := by decide

theorem test_ct12 : let t := after { startAt Params.specDefault 0x0200 [0xD0, 0x10] [] with p := 0x00 };
    t.p = 0x00 ∧ t.pc = 0x0212 ∧ t.out.cycles = some 2 := by decide

theorem test_ct14 : let t := after { startAt Params.specDefault 0x0200 [0x10, 0x10] [] with p := 0x00 };
    t.p = 0x00 ∧ t.pc = 0x0212 ∧ t.out.cycles = some 2 := by decide

theorem test_ct16 : let t := after { startAt Params.specDefault 0x0200 [0x50, 0x10] [] with p := 0x00 };
    t.p = 0x00 ∧ t.pc = 0x0212 ∧ t.out.cycles = some 2 := by decide

theorem test_ct18 : let t := after { startAt Params.specDefault 0x0200 [0x70, 0x10] [] with p := 0x40 };
    t.p = 0x40 ∧ t.pc = 0x0212 ∧ t.out.cycles = some 2 := by decide

theorem test_ct20 : let t := after (startAt Params.specDefault 0x0200 [0xD0, 0x80] []);
    t.p = 0x00 ∧ t.pc = 0x0182 ∧ t.out.cycles = some 2 := by decide

theorem test_ct24 : let t := after { startAt Params.specDefault 0x0000 [0x70, 0xFD] [] with p := 0x40 };
    t.pc = 0x0002 ∧ t.fault = some (.outOfRange (-1)) ∧ t.out.cycles = none ∧ t.out.events = [] := by decide

theorem test_ct25 : let t := after { startAt { Params.specDefault with addrOverflow := .wrap16 } 0x0000 [0x70, 0xFD] [] with p := 0x40 };
    t.p = 0x40 ∧ t.pc = 0xFFFF ∧ t.out.cycles = some 2 := by decide

theorem test_ct26 : let t := after { startAt Params.specDefault 0x0000 [0x70, 0xFD] [] with p := 0x00 };
    t.p = 0x00 ∧ t.pc = 0x0002 ∧ t.out.cycles = some 2 := by decide

theorem test_ct27 : let t := after (startAt Params.specDefault 0xFFF0 [0xD0, 0x7F] []);
    t.pc = 0xFFF2 ∧ t.fault = some (.outOfRange 0x10071) ∧ t.out.cycles = none ∧ t.out.events = [] := by decide

/-! ### Transfers -/

theorem test_tr1 : let t := after { startAt Params.specDefault 0x0200 [0xAA] [] with a := 0x80 };
    t.x = 0x80 ∧ t.p = 0x80 ∧ t.pc = 0x0201 ∧ t.out.cycles = some 2 := by decide

theorem test_tr2 : let t := after { startAt Params.specDefault 0x0200 [0xA8] [] with a := 0x00, y := 0x12 };
    t.y = 0x00 ∧ t.p = 0x02 ∧ t.pc = 0x0201 ∧ t.out.cycles = some 2 := by decide

theorem test_tr3 : let t := after { startAt Params.specDefault 0x0200 [0x8A] [] with x := 0x00, a := 0x12 };
    t.a = 0x00 ∧ t.p = 0x02 ∧ t.pc = 0x0201 ∧ t.out.cycles = some 2 := by decide

theorem test_tr4 : let t := after { startAt Params.specDefault 0x0200 [0x98] [] with y := 0xFF };
    t.a = 0xFF ∧ t.p = 0x80 ∧ t.pc = 0x0201 ∧ t.out.cycles = some 2 := by decide

theorem test_tr6 : let t := after { startAt Params.specDefault 0x0200 [0x9A] [] with x := 0x00 };
    t.sp = 0x00 ∧ t.p = 0x02 ∧ t.pc = 0x0201 ∧ t.out.cycles = some 2 := by decide

theorem test_tr7 : let t := after (startAt Params.specDefault 0x0200 [0xBA] []);
    t.x = 0xFF ∧ t.p = 0x80 ∧ t.pc = 0x0201 ∧ t.out.cycles = some 2 := by decide

/-! ### Stack -/

theorem test_sk1 : let t := after { startAt Params.specDefault 0x0200 [0x48] [] with a := 0x42 };
    t.sp = 0xFE ∧ t.p = 0x00 ∧ t.pc = 0x0201 ∧ t.mem.read 0x00FF = 0x42 ∧ t.out.cycles = some 3 := by decide

theorem test_sk2 : let t := after { startAt Params.specDefault 0x0200 [0x08] [] with p := 0xC3 };
    t.sp = 0xFE ∧ t.p = 0xC3 ∧ t.pc = 0x0201 ∧ t.mem.read 0x00FF = 0xC3 ∧ t.out.cycles = some 3 := by decide

theorem test_sk4 : let t := after { startAt Params.specDefault 0x0200 [0x68] [(0x00FF, 0x80)] with sp := 0xFE };
    t.a = 0x80 ∧ t.sp = 0xFF ∧ t.p = 0x80 ∧ t.pc = 0x0201 ∧ t.out.cycles = some 4 := by decide

theorem test_sk6 : let t := after { startAt Params.specDefault 0x0200 [0x28] [(0x00FF, 0xFF)] with sp := 0xFE };
    t.sp = 0xFF ∧ t.p = 0xFF ∧ t.pc = 0x0201 ∧ t.out.cycles = some 4 := by decide

theorem test_sk7 : let t := after { startAt Params.specDefault 0x0200 [0x48] [] with a := 0x99, sp := 0x00 };
    t.sp = 0xFF ∧ t.p = 0x00 ∧ t.pc = 0x0201 ∧ t.mem.read 0x0000 = 0x99 ∧ t.out.cycles = some 3 := by decide

theorem test_sk8 : let t := after { startAt Params.specDefault 0x0200 [0x68] [(0x0000, 0x07)] with sp := 0xFF };
    t.a = 0x07 ∧ t.sp = 0x00 ∧ t.p = 0x00 ∧ t.pc = 0x0201 ∧ t.out.cycles = some 4 := by decide

/-! ### BRK, NOP, undefined and unlisted bytes -/

theorem test_bk1 : let t := after (startAt Params.specDefault 0x0200 [0x00, 0xEA] []);
    t.p = 0x00 ∧ t.pc = 0x0201 ∧ t.run = .halted ∧ t.out.cycles = some 7 := by decide

theorem test_bk2 : let t := after (startAt { Params.specDefault with brkSize := .two } 0x0200 [0x00, 0xEA] []);
    t.p = 0x00 ∧ t.pc = 0x0202 ∧ t.run = .halted ∧ t.out.cycles = some 7 := by decide

theorem test_bk3 : let t := after (startAt Params.specDefault 0x0200 [0xEA] []);
    t.p = 0x00 ∧ t.pc = 0x0201 ∧ t.out.cycles = some 2 := by decide

theorem test_bk4 : let t := after (startAt Params.specDefault 0x0200 [0x02] []);
    t.p = 0x00 ∧ t.pc = 0x0201 ∧ t.out.cycles = some 2 ∧ t.out.events = [.unknownEncoding 0x02 0x0200, .instructionExecuted] := by decide

theorem test_bk5 : let t := after (startAt Params.specDefault 0x0200 [0xFF, 0x12, 0x34] []);
    t.p = 0x00 ∧ t.pc = 0x0201 ∧ t.out.cycles = some 2 ∧ t.out.events = [.unknownEncoding 0xFF 0x0200, .instructionExecuted] := by decide

theorem test_bk6 : let t := after { startAt Params.specDefault 0x0200 [0x0A] [] with a := 0x41 };
    t.p = 0x00 ∧ t.pc = 0x0200 ∧ t.refused = some 0x0A ∧ t.out.cycles = none ∧ t.out.events = [] := by decide

theorem test_bk7 : let t := after (startAt Params.specDefault 0x0200 [0x20, 0x00, 0x03] []);
    t.p = 0x00 ∧ t.pc = 0x0200 ∧ t.refused = some 0x20 ∧ t.out.cycles = none ∧ t.out.events = [] := by decide

/-! ### Unlisted instructions under UNLISTED_FAMILIES = standard -/

theorem test_ul2 : let t := after { startAt Params.executing 0x0200 [0x0A] [] with a := 0x80 };
    t.a = 0x00 ∧ t.p = 0x03 ∧ t.pc = 0x0201 ∧ t.out.cycles = some 2 := by decide

theorem test_ul3 : let t := after (startAt Params.executing 0x0200 [0x06, 0x10] [(0x0010, 0xC1)]);
    t.p = 0x81 ∧ t.pc = 0x0202 ∧ t.mem.read 0x0010 = 0x82 ∧ t.out.cycles = some 5 := by decide

theorem test_ul4 : let t := after { startAt Params.executing 0x0200 [0x4A] [] with a := 0x81 };
    t.a = 0x40 ∧ t.p = 0x01 ∧ t.pc = 0x0201 ∧ t.out.cycles = some 2 := by decide

theorem test_ul6 : let t := after { startAt Params.executing 0x0200 [0x2A] [] with a := 0x40, p := 0x01 };
    t.a = 0x81 ∧ t.p = 0x80 ∧ t.pc = 0x0201 ∧ t.out.cycles = some 2 := by decide

theorem test_ul8 : let t := after { startAt Params.executing 0x0200 [0x6A] [] with a := 0x02, p := 0x01 };
    t.a = 0x81 ∧ t.p = 0x80 ∧ t.pc = 0x0201 ∧ t.out.cycles = some 2 := by decide

theorem test_ul10 : let t := after (startAt Params.executing 0x0200 [0xE6, 0x10] [(0x0010, 0xFF)]);
    t.p = 0x02 ∧ t.pc = 0x0202 ∧ t.mem.read 0x0010 = 0x00 ∧ t.out.cycles = some 5 := by decide

theorem test_ul12 : let t := after (startAt Params.executing 0x0200 [0xC6, 0x10] []);
    t.p = 0x80 ∧ t.pc = 0x0202 ∧ t.mem.read 0x0010 = 0xFF ∧ t.out.cycles = some 5 := by decide

theorem test_ul13 : let t := after { startAt Params.executing 0x0200 [0xDE, 0xFF, 0xFF] [] with x := 0x01 };
    t.pc = 0x0203 ∧ t.fault = some (.outOfRange 0x10000) ∧ t.out.cycles = none ∧ t.out.events = [] := by decide

theorem test_ul14 : let t := after { startAt Params.executing 0x0200 [0xE8] [] with x := 0xFF };
    t.x = 0x00 ∧ t.p = 0x02 ∧ t.pc = 0x0201 ∧ t.out.cycles = some 2 := by decide

theorem test_ul15 : let t := after { startAt Params.executing 0x0200 [0xC8] [] with y := 0x7F };
    t.y = 0x80 ∧ t.p = 0x80 ∧ t.pc = 0x0201 ∧ t.out.cycles = some 2 := by decide

theorem test_ul16 : let t := after { startAt Params.executing 0x0200 [0xCA] [] with x := 0x00 };
    t.x = 0xFF ∧ t.p = 0x80 ∧ t.pc = 0x0201 ∧ t.out.cycles = some 2 := by decide

theorem test_ul17 : let t := after { startAt Params.executing 0x0200 [0x88] [] with y := 0x01 };
    t.y = 0x00 ∧ t.p = 0x02 ∧ t.pc = 0x0201 ∧ t.out.cycles = some 2 := by decide

theorem test_ul18 : let t := after (startAt Params.executing 0x0200 [0x20, 0x00, 0x03] []);
    t.sp = 0xFD ∧ t.p = 0x00 ∧ t.pc = 0x0300 ∧ t.mem.read 0x00FE = 0x02 ∧ t.mem.read 0x00FF = 0x02 ∧ t.out.cycles = some 6 := by decide

theorem test_ul19 : let t := after { startAt Params.executing 0x0200 [0x60] [(0x00FE, 0x02), (0x00FF, 0x02)] with sp := 0xFD };
    t.sp = 0xFF ∧ t.p = 0x00 ∧ t.pc = 0x0203 ∧ t.out.cycles = some 6 := by decide

theorem test_ul20 : let t := after { startAt Params.executing 0x0200 [0x40] [(0x00FD, 0x01), (0x00FE, 0x00), (0x00FF, 0x03)] with sp := 0xFC };
    t.sp = 0xFF ∧ t.p = 0x01 ∧ t.pc = 0x0300 ∧ t.out.cycles = some 6 := by decide

/-- FL1 to FL7: P after each flag instruction, from 0xFF for a clear and 0x00 for a set. -/
theorem test_fl :
    ([(0x18, 0xFF), (0x38, 0x00), (0x58, 0xFF), (0x78, 0x00), (0xD8, 0xFF), (0xF8, 0x00), (0xB8, 0xFF)].map
      fun row : Byte × Byte => (after { startAt Params.specDefault 0x0200 [row.1] [] with p := row.2 }).p) =
    [0xFE, 0x01, 0xFB, 0x04, 0xF7, 0x08, 0xBF] := by decide

/-- S1: load at 0, one step from reset. -/
theorem test_s1 : ((hostLoad [0xA9, 0x69] State.reset).map fun s => ((after s).a, (after s).p, (after s).pc)) =
    some (0x69, 0x00, 0x0002) := by decide

/-- S6: `Run` makes the two steps up to BRK, and a second `Run` makes none. -/
theorem test_s6 : let t := batchRun 2 (startAt Params.specDefault 0 [0xA9, 0x01, 0x00] []);
    t.map (fun s => (s.a, s.pc, s.run)) = some (0x01, 0x0003, .halted) ∧ t.bind (batchRun 0) = t := by decide

/-- R137: in the program of S6, a `Stop` issued during the first step ends the run after it, before BRK; the state is the one that
step leaves, with RUN halted. -/
theorem test_stop_during_run :
    (hostedRun [[], [.stop]] 5 (startAt Params.specDefault 0 [0xA9, 0x01, 0x00] [])).map
      (fun s => (s.a, s.pc, s.run, s.ended)) = some (0x01, 0x0002, .halted, true) := by decide

/-- S9: the spec's corner cases of the single-bit flag write. -/
theorem test_s9 : setFlag (setFlag 0xA5 .c false) .c true = 0xA5 ∧ setFlag (setFlag 0xA5 .z true) .z false = 0xA5 ∧
    setFlag 0x00 .n true = 0x80 := by decide

/-! ## Witnesses: for each statement with hypotheses, a state and operands that meet all of them -/

/-- A state for the witnesses: pointers at 0x10 and 0x24, all flags but C set. -/
def sample : State :=
  { startAt Params.specDefault 0x0200 [0xEA] [(0x10, 0x00), (0x11, 0x30), (0x24, 0x34), (0x25, 0x12), (0x3000, 0x81)] with
    a := 0x7F
    x := 0x04
    y := 0x20
    p := 0xFE }

/-- The same with X and Y at 1 and with ADDR_OVERFLOW = `wrap16`. -/
def sampleWrap : State := { sample with x := 1, y := 1, params := { Params.specDefault with addrOverflow := .wrap16 } }

theorem sample_wf : sample.mem.wf := by decide

theorem sample_inv : sample.Inv := ⟨by decide, by decide⟩

theorem witness_DecodedBytesAreTheEncoding : decode [0xAD, 0x34, 0x12, 0xEA] = .ok (.ldaAbs 0x1234, [0xEA]) := rfl

theorem witness_OpCodesAndDefinedBytesCorrespond :
    formOf 0xFE = some (.word .incAbsX) ∧ formOf 0x00 = some (.none .brk) ∧ formOf 0xFF = none := ⟨rfl, rfl, rfl⟩

theorem witness_CatalogIsTheInstructionsWithTheirSizes : Instr.nop ≠ .brk := by decide

theorem witness_MemoryReadAfterWrite : Memory.wf [(0, 1), (65535, 2)] := by decide

theorem witness_MemoriesThatReadAlikeAreEqual :
    Memory.wf [(7, 1)] ∧ ∀ a, Memory.read [(7, 1)] a = Memory.read [(7, 1)] a := ⟨by decide, fun _ => rfl⟩

theorem witness_AccessesAreBoundsChecked :
    ¬ (0 ≤ (-1 : Int) ∧ (-1 : Int) < 65536) ∧ ¬ (0 ≤ (65536 : Int) ∧ (65536 : Int) < 65536) ∧
    (0 ≤ (0 : Int) ∧ (0 : Int) < 65536) ∧ (0 ≤ (65535 : Int) ∧ (65535 : Int) < 65536) := by decide

theorem witness_StepKeepsTheInvariant : sample.Inv ∧ step sample = .next (after sample) := ⟨sample_inv, rfl⟩

theorem witness_HostActionsKeepTheInvariant :
    sample.Inv ∧ (hostAct (.load [0xA9]) sample).isSome ∧ (hostAct (.poke 0xFFFF 1) sample).isSome :=
  ⟨sample_inv, rfl, rfl⟩

theorem witness_ReachableStatesMeetTheInvariant :
    Reachable Params.executing State.reset ∧ Reachable Params.executing (after State.reset) :=
  ⟨.powerOn 0 0 0, .move _ _ (.powerOn 0 0 0) (.step _ _ rfl)⟩

theorem witness_EnabledMachineAlwaysSteps : sample.fault = none ∧ sample.refused = none := ⟨rfl, rfl⟩

theorem witness_FaultedStateIsTerminal :
    let s := sample.raise (.outOfRange 65536)
    s.fault = some (.outOfRange 65536) ∧ hostAct .start s = some (hostStart s) ∧
      ∀ a x y, HostAction.start ≠ .reset a x y := ⟨rfl, rfl, nofun⟩

/-- The host loads over the refused byte, then starts, in the state after the refused step. -/
theorem witness_UnlistedByteIsRefused :
    let s := startAt Params.specDefault 0 [0x20, 0x00, 0x03] []
    s.fault = none ∧ s.refused = none ∧ s.params.unlisted = .refuse ∧ classOf (s.mem.read s.pc.toNat) = .unlisted ∧
      (hostActs [.load [0xEA], .start] (after s)).map (fun u => (u.mem.read 0, u.refused)) = some (0xEA, some 0x20) ∧
      ∀ h ∈ [HostAction.load [0xEA], .start], ∀ a x y, h ≠ .reset a x y := by
  refine ⟨rfl, rfl, rfl, rfl, rfl, ?_⟩
  simp

theorem witness_OnlyBrkWritesRun :
    exec .brk sample = .next { sample with run := .halted } ∧ exec .nop sample = .next sample := ⟨rfl, rfl⟩

theorem witness_RegisterWriters :
    exec .nop sample = .next sample ∧
    Instr.nop.mnemonic ∉ [Mnemonic.lda, .adc, .sbc, .and, .eor, .ora, .txa, .tya, .pla] ∧
    Instr.nop ∉ [Instr.aslAcc, .lsrAcc, .rolAcc, .rorAcc] ∧
    Instr.nop.mnemonic ∉ [Mnemonic.ldx, .tax, .tsx, .inx, .dex] ∧
    Instr.nop.mnemonic ∉ [Mnemonic.ldy, .tay, .iny, .dey] ∧
    Instr.nop.mnemonic ∉ [Mnemonic.txs, .pha, .php, .pla, .plp, .jsr, .rts, .rti] :=
  ⟨rfl, by decide, by decide, by decide, by decide, by decide⟩

theorem witness_FlagWriters :
    exec .nop sample = .next sample ∧
    Instr.nop.mnemonic ∉ [Mnemonic.adc, .sbc, .cmp, .cpx, .cpy, .clc, .sec, .plp, .asl, .lsr, .rol, .ror, .rti] ∧
    Instr.nop.mnemonic ∉ [Mnemonic.lda, .ldx, .ldy, .adc, .sbc, .cmp, .cpx, .cpy, .and, .eor, .ora, .tax, .tay, .txa, .tya, .txs, .tsx] ∧
    Instr.nop.mnemonic ∉ [Mnemonic.pla, .asl, .lsr, .rol, .ror, .inc, .dec, .inx, .iny, .dex, .dey, .bit, .plp, .rti] ∧
    Instr.nop.mnemonic ∉ [Mnemonic.adc, .sbc, .bit, .clv, .plp, .rti] ∧
    Instr.nop.mnemonic ∉ [Mnemonic.sei, .cli, .plp, .rti] ∧ Instr.nop.mnemonic ∉ [Mnemonic.sed, .cld, .plp, .rti] :=
  ⟨rfl, by decide, by decide, by decide, by decide, by decide, by decide⟩

theorem witness_OnlyControlTransfersMoveThePc :
    exec .tax sample = .next ((sample.setReg .x 0x7F).setNZ 0x7F) ∧
    Instr.tax.mnemonic ∉ [Mnemonic.jmp, .bcc, .bcs, .beq, .bmi, .bne, .bpl, .bvc, .bvs, .jsr, .rts, .rti] :=
  ⟨rfl, by decide⟩

theorem witness_FaultsArePrecise :
    exec (.ldaAbsX 0xFFFF) sample = .next (sample.raise (.outOfRange 0x10003)) ∧
    (sample.raise (.outOfRange 0x10003)).fault ≠ sample.fault := ⟨rfl, by decide⟩

theorem witness_NothingFaultsUnderWrap16 :
    sampleWrap.params.addrOverflow = .wrap16 ∧ step sampleWrap = .next (after sampleWrap) := ⟨rfl, rfl⟩

theorem witness_StoredFlagsGateNothing :
    Flag.d ∈ [Flag.i, .d, .b, .u] ∧ Instr.adcImm 5 ≠ .php ∧ (nextOf (exec (.adcImm 5) sample)).isSome :=
  ⟨by decide, by decide, rfl⟩

/-- Both ends of the step: without and with a fault. -/
theorem witness_StepRunsTheDecodedInstruction :
    let s := startAt Params.specDefault 0xFFFE [0xA9, 0x69] []
    let f := { startAt Params.specDefault 0xFFFD [0xBD, 0xFF, 0xFF] [] with x := 1 }
    decode [s.mem.read s.pc.toNat, s.mem.read (s.pc + 1).toNat, s.mem.read (s.pc + 2).toNat] =
      .ok (.ldaImm 0x69, [0]) ∧
    (nextOf (exec (.ldaImm 0x69) (s.enter s.fetch))).map State.fault = some none ∧
    decode [f.mem.read f.pc.toNat, f.mem.read (f.pc + 1).toNat, f.mem.read (f.pc + 2).toNat] =
      .ok (.ldaAbsX 0xFFFF, []) ∧
    (nextOf (exec (.ldaAbsX 0xFFFF) (f.enter f.fetch))).map State.fault = some (some (.outOfRange 0x10000)) ∧
    (Instr.ldaImm 0x69).mnemonic.catalog ≠ .unlisted := ⟨rfl, rfl, rfl, rfl, by decide⟩

theorem witness_UndefinedByteIsAOneByteNoop :
    let s := startAt Params.specDefault 0xFFFF [0x02] []
    s.fault = none ∧ s.refused = none ∧ formOf (s.mem.read s.pc.toNat) = none := ⟨rfl, rfl, rfl⟩

/-- A step that executes, one that faults and one that is refused; two operands of one opcode byte. -/
theorem witness_StepReturnsTheDeclaredCost :
    (after sample).fault = none ∧ (after sample).refused = none ∧ (after sample).pc = 0x0201 ∧
    (after { startAt Params.specDefault 0 [0xBD, 0xFF, 0xFF] [] with x := 1 }).fault ≠ none ∧
    (after (startAt Params.specDefault 0 [0x20] [])).refused ≠ none ∧
    (Instr.bne 0x7F).opcodeByte = (Instr.bne 0x80).opcodeByte := by decide

theorem witness_StoreIsSeenByTheNextFetch :
    sample.mem.wf ∧ storeForm (.staIndY 0x24) = some (.a, .indirectY 0x24) ∧
    effectiveAddress (.indirectY 0x24) sample = .ok 0x1254 ∧ (nextOf (exec (.staIndY 0x24) sample)).isSome :=
  ⟨sample_wf, rfl, rfl, rfl⟩

theorem witness_FlagWriteKeepsSiblingBits : (0 : Nat) ≠ Flag.n.bit ∧ (7 : Nat) ≠ Flag.c.bit := by decide

theorem witness_Addr16Rule :
    (0 ≤ (0 : Int) ∧ (0 : Int) ≤ 65535) ∧ (0 ≤ (65535 : Int) ∧ (65535 : Int) ≤ 65535) ∧
    ¬ (0 ≤ (-1 : Int) ∧ (-1 : Int) ≤ 65535) ∧ ¬ (0 ≤ (65536 : Int) ∧ (65536 : Int) ≤ 65535) := by decide

theorem witness_IndirectReadsItsPointer :
    (0xFFFE : Word).toNat < 65535 ∧ (0xFFFF : Word).toNat = 65535 ∧ sampleWrap.params.addrOverflow = .wrap16 ∧
    sample.params.addrOverflow = .fault := by decide

theorem witness_OperandIsImmediateOrTheByteAtEa :
    effectiveAddress (.absoluteX 0x2FFC) sample = .ok 0x3000 ∧
    effectiveAddress (.absoluteX 0xFFFF) sample = .error (.outOfRange 0x10003) := ⟨rfl, rfl⟩

theorem witness_AddressOverflowTakesTheFault :
    memOperand (.decAbsX 0xFFFF) = some (.absoluteX 0xFFFF) ∧
    effectiveAddress (.absoluteX 0xFFFF) sample = .error (.outOfRange 0x10003) ∧
    memOperand (.jmpInd 0xFFFF) = some (.indirect 0xFFFF) ∧
    effectiveAddress (.indirect 0xFFFF) sample = .error (.outOfRange 0x10000) := ⟨rfl, rfl, rfl, rfl⟩

/-- The operand of each form can be read in `sample`. -/
def readable {α : Type} (form : Instr → Option (α × Operand)) (is : List Instr) : Bool :=
  is.all fun i =>
    match form i with
    | some (_, o) => (readOperand o sample).toBool
    | none => false

/-- The address of each form resolves in `sample`. -/
def resolvable {α : Type} (form : Instr → Option (α × MemOperand)) (is : List Instr) : Bool :=
  is.all fun i =>
    match form i with
    | some (_, m) => (effectiveAddress m sample).toBool
    | none => false

/-- An operand table without a first column. -/
def plain (form : Instr → Option Operand) (i : Instr) : Option (Unit × Operand) := (form i).map fun o => ((), o)

theorem witness_LoadsSetTheirRegister : readable loadForm
    [.ldaImm 0, .ldaZp 0x10, .ldaZpX 0xFF, .ldaAbs 0xFFFF, .ldaAbsX 0xFFFB, .ldaAbsY 0xFFDF, .ldaIndX 0x0C, .ldaIndY 0x10,
     .ldxImm 0xFF, .ldxZp 0xFF, .ldxZpY 0xFF, .ldxAbs 0, .ldxAbsY 0x3000, .ldyImm 1, .ldyZp 0, .ldyZpX 0x80, .ldyAbs 0x3000,
     .ldyAbsX 0x3000] = true := by decide

theorem witness_StoresWriteOneByte : sample.mem.wf ∧ resolvable storeForm
    [.staZp 0x10, .staZpX 0xFF, .staAbs 0xFFFF, .staAbsX 0xFFFB, .staAbsY 0xFFDF, .staIndX 0x0C, .staIndY 0x10, .stxZp 0,
     .stxZpY 0xFF, .stxAbs 0, .styZp 0xFF, .styZpX 0x80, .styAbs 0x3000] = true := ⟨sample_wf, by decide⟩

theorem witness_AdcAddsWithCarry : readable (plain adcForm)
    [.adcImm 1, .adcZp 0x10, .adcZpX 0xFF, .adcAbs 0xFFFF, .adcAbsX 0xFFFB, .adcAbsY 0xFFDF, .adcIndX 0x0C, .adcIndY 0x10] =
    true := by decide

theorem witness_SbcSubtractsWithBorrow : readable (plain sbcForm)
    [.sbcImm 1, .sbcZp 0x10, .sbcZpX 0xFF, .sbcAbs 0xFFFF, .sbcAbsX 0xFFFB, .sbcAbsY 0xFFDF, .sbcIndX 0x0C, .sbcIndY 0x10] =
    true := by decide

theorem witness_ComparesSetCarryZeroNegative : readable compareForm
    [.cmpImm 1, .cmpZp 0x10, .cmpZpX 0xFF, .cmpAbs 0xFFFF, .cmpAbsX 0xFFFB, .cmpAbsY 0xFFDF, .cmpIndX 0x0C, .cmpIndY 0x10,
     .cpxImm 4, .cpxZp 0, .cpxAbs 0xFFFF, .cpyImm 0x20, .cpyZp 0xFF, .cpyAbs 0] = true := by decide

theorem witness_BitwiseOperationsOnTheAccumulator : readable bitwiseForm
    [.andImm 1, .andZp 0x10, .andZpX 0xFF, .andAbs 0xFFFF, .andAbsX 0xFFFB, .andAbsY 0xFFDF, .andIndX 0x0C, .andIndY 0x10,
     .eorImm 1, .eorZp 0x10, .eorZpX 0xFF, .eorAbs 0xFFFF, .eorAbsX 0xFFFB, .eorAbsY 0xFFDF, .eorIndX 0x0C, .eorIndY 0x10,
     .oraImm 1, .oraZp 0x10, .oraZpX 0xFF, .oraAbs 0xFFFF, .oraAbsX 0xFFFB, .oraAbsY 0xFFDF, .oraIndX 0x0C, .oraIndY 0x10] =
    true := by decide

theorem witness_BitTestsTheOperand : readable (plain bitForm) [.bitZp 0x10, .bitAbs 0xFFFF] = true := by decide

theorem witness_JumpsGoToTheirTarget : effectiveAddress (.indirect 0x0010) sample = .ok 0x3000 := rfl

/-- Not taken; taken to 0 and to 65535; past either end under `wrap16` and under `fault`. -/
theorem witness_BranchesGoToTheirTarget :
    (∀ i ∈ [Instr.bcc 0, .bcs 0, .beq 0, .bmi 0, .bne 0, .bpl 0, .bvc 0, .bvs 0], (branchForm i).isSome) ∧
    branchForm (.bne 0x80) = some (.z, false, 0x80) ∧ branchForm (.beq 0x80) = some (.z, true, 0x80) ∧
    sample.flag .z ≠ false ∧ sample.flag .z = true ∧
    ((0x0080 : Word).toNat : Int) + (0x80 : Byte).toInt = 0 ∧ ((0xFF80 : Word).toNat : Int) + (0x7F : Byte).toInt = 65535 ∧
    ((0x007F : Word).toNat : Int) + (0x80 : Byte).toInt = -1 ∧ ((0xFF81 : Word).toNat : Int) + (0x7F : Byte).toInt = 65536 ∧
    sample.params.addrOverflow = .fault ∧ sampleWrap.params.addrOverflow = .wrap16 := by decide

theorem witness_TransfersCopyAndSetZN :
    ∀ i ∈ [Instr.tax, .tay, .txa, .tya, .txs, .tsx], (transferForm i).isSome := by decide

theorem witness_PushesStoreThenDecrementSp :
    sample.mem.wf ∧ (Instr.pha = .pha ∧ sample.a = sample.a) ∧ (Instr.php = .php ∧ sample.p = sample.p) :=
  ⟨sample_wf, ⟨rfl, rfl⟩, rfl, rfl⟩

theorem witness_FlagInstructionsWriteOneFlag :
    ∀ i ∈ [Instr.clc, .sec, .cli, .sei, .cld, .sed, .clv], (flagForm i).isSome := by decide

theorem witness_ShiftsReplaceTheirOperand :
    sample.mem.wf ∧
    shiftForm .aslAcc = some (.asl, .accumulator) ∧ shiftForm .lsrAcc = some (.lsr, .accumulator) ∧
    shiftForm .rolAcc = some (.rol, .accumulator) ∧ shiftForm .rorAcc = some (.ror, .accumulator) ∧
    (∀ i ∈ [Instr.aslZp 0, .aslZpX 1, .aslAbs 2, .aslAbsX 3, .lsrZp 0, .lsrZpX 1, .lsrAbs 2, .lsrAbsX 3, .rolZp 0, .rolZpX 1,
      .rolAbs 2, .rolAbsX 3, .rorZp 0, .rorZpX 1, .rorAbs 2, .rorAbsX 3], (shiftForm i).isSome) ∧
    shiftForm (.rorAbsX 0xFFFB) = some (.ror, .memory (.absoluteX 0xFFFB)) ∧
    effectiveAddress (.absoluteX 0xFFFB) sample = .ok 0xFFFF :=
  ⟨sample_wf, rfl, rfl, rfl, rfl, by decide, rfl, rfl⟩

theorem witness_MemoryIncrementsAndDecrements : sample.mem.wf ∧ resolvable incDecForm
    [.incZp 0x10, .incZpX 0xFF, .incAbs 0xFFFF, .incAbsX 0xFFFB, .decZp 0x10, .decZpX 0xFF, .decAbs 0xFFFF, .decAbsX 0xFFFB] =
    true := ⟨sample_wf, by decide⟩

theorem witness_RegisterIncrementsAndDecrements :
    ∀ i ∈ [Instr.inx, .iny, .dex, .dey], (regIncDecForm i).isSome := by decide

theorem witness_SubroutineCallAndReturns : sample.mem.wf := sample_wf

theorem witness_PullUndoesPush :
    sample.mem.wf ∧ exec .php sample = .next (sample.push sample.p) ∧ (nextOf (exec (.jsr 0x0300) sample)).isSome :=
  ⟨sample_wf, rfl, rfl⟩

theorem witness_LoadInstallsTheImageAtZero :
    sample.mem.wf ∧ ([] : List Byte).length ≤ 65536 ∧ (List.replicate 65536 (1 : Byte)).length ≤ 65536 ∧
    65536 < (List.replicate 65537 (1 : Byte)).length := by
  refine ⟨sample_wf, ?_⟩
  simp only [List.length_replicate]
  decide

/-- Clause by clause: a halted state; a running one that steps; a run that ends in a fault; a run that ends; a run the host stops;
a run during which the host writes a BRK into its way. -/
theorem witness_BatchRunStepsWhileRunning :
    ({ sample with run := .halted } : State).run = .halted ∧ sample.run = .running ∧ step sample = .next (after sample) ∧
    (batchRun 1 { startAt Params.specDefault 0 [0xBD, 0xFF, 0xFF] [] with x := 1 }).map State.fault =
      some (some (.outOfRange 0x10000)) ∧
    (batchRun 1 (startAt Params.specDefault 0 [0x00] [])).map (fun t => (t.fault, t.refused)) = some (none, none) ∧
    (hostedRun [[], [.stop]] 0 sample).map (fun t => (t.fault, t.refused, t.pc)) = some (none, none, 0x0201) ∧
    (hostedRun [[], [.poke 1 0x00]] 1 (startAt Params.specDefault 0 [0xEA, 0xEA] [])).map
      (fun t => (t.fault, t.refused, t.pc)) = some (none, none, 2) :=
  ⟨rfl, rfl, rfl, rfl, rfl, rfl, rfl⟩

theorem witness_StartAndStopWriteRunOnly :
    (sample.raise (.outOfRange (-1))).fault ≠ none ∧ ({ sample with refused := some 0x20 } : State).refused ≠ none ∧
    sample.run = .running := by decide

theorem witness_HostReadsAndPatchesMemory : sample.mem.wf := sample_wf

end Sys2Proof.Tests
end

section
/-! PROOFS. The state family (spec/10_state.md): the invariant over all reachable states, what each operation may write, and
the flags that gate nothing. -/

namespace Sys2Proof.Machine

/-! ## The invariant (R51, R53, R442, R443) -/

/-- A reset leaves memory blank and no mark set. -/
theorem inv_resetWith (p : Params) (a x y : Byte) : (State.resetWith p a x y).Inv :=
  ⟨Memory.wf_nil, .inl rfl⟩

/-- A step keeps the invariant and the parameters: it starts with neither mark set, a refusal sets only REFUSED, and an
instruction can set only FAULT. -/
theorem step_keeps_inv_params {s t : State} (hs : s.Inv) (h : step s = .next t) : t.Inv ∧ t.params = s.params := by
  obtain ⟨hf, hr, ⟨-, rfl⟩ | ⟨-, u, hu, rfl⟩⟩ := step_next_cases h
  · exact ⟨⟨hs.memory, .inl hf⟩, rfl⟩
  · have hk := exec_kept hu
    refine ⟨⟨?_, .inr ?_⟩, ?_⟩
    · rw [mem_leave]
      exact hk.wf hs.memory
    · rw [refused_leave, hk.refused, refused_enter, hr]
    · rw [params_leave, hk.params, params_enter]

/-- An action of the host keeps the invariant and the parameters. -/
theorem hostAct_keeps_inv_params {a : HostAction} {s t : State} (hs : s.Inv) (h : hostAct a s = some t) :
    t.Inv ∧ t.params = s.params := by
  cases a with
  | reset a x y =>
    cases h
    exact ⟨inv_resetWith _ a x y, rfl⟩
  | load bytes =>
    simp only [hostAct, hostLoad] at h
    split at h <;> cases h
    exact ⟨⟨Memory.wf_storeBytes hs.memory bytes 0, hs.marks⟩, rfl⟩
  | poke addr v =>
    cases h
    exact ⟨⟨Memory.wf_write_word hs.memory addr v, hs.marks⟩, rfl⟩
  | start | stop | peek | settings =>
    cases h
    exact ⟨⟨hs.memory, hs.marks⟩, rfl⟩

/-- A move of the system, by the engine or by the host, keeps the invariant and the parameters. -/
theorem Moves.keeps_inv_params {s t : State} (hs : s.Inv) (h : Moves s t) : t.Inv ∧ t.params = s.params := by
  cases h with
  | step _ _ h => exact step_keeps_inv_params hs h
  | host a _ _ h => exact hostAct_keeps_inv_params hs h

/-- Settles O11: a reset blanks memory and clears both marks. -/
theorem resetMeetsTheInvariant : Obligations.ResetMeetsTheInvariant := inv_resetWith

/-- Settles O13, by induction on the moves from power-on. -/
theorem reachableStatesMeetTheInvariant : Obligations.ReachableStatesMeetTheInvariant := by
  intro p s h
  induction h with
  | powerOn a x y => exact ⟨inv_resetWith p a x y, rfl⟩
  | move s t _ hm ih =>
    obtain ⟨hs, hp⟩ := ih
    obtain ⟨ht, hparams⟩ := hm.keeps_inv_params hs
    exact ⟨ht, hparams.trans hp⟩

/-! ## Increment and decrement (R34, R35) -/

theorem toNat_incByte (b : Byte) : (incByte b).toNat = (b.toNat + 1) % 256 := BitVec.toNat_add b 1

theorem toNat_incWord (w : Word) : (incWord w).toNat = (w.toNat + 1) % 65536 := BitVec.toNat_add w 1

theorem toNat_decByte (b : Byte) : ((decByte b).toNat : Int) = (b.toNat - 1) % 256 := by
  simp only [decByte, BitVec.toNat_sub, BitVec.ofNat_eq_ofNat, BitVec.toNat_ofNat]
  omega

theorem toNat_decWord (w : Word) : ((decWord w).toNat : Int) = (w.toNat - 1) % 65536 := by
  simp only [decWord, BitVec.toNat_sub, BitVec.ofNat_eq_ofNat, BitVec.toNat_ofNat]
  omega

@[simp] theorem incByte_decByte (b : Byte) : incByte (decByte b) = b := BitVec.sub_add_cancel b 1

@[simp] theorem incWord_decWord (w : Word) : incWord (decWord w) = w := BitVec.sub_add_cancel w 1

/-- Settles O28: both widths, from the numeric readings of increment and decrement. -/
theorem incrementUndoesDecrement : Obligations.IncrementUndoesDecrement :=
  ⟨fun b => ⟨toNat_incByte b, toNat_decByte b, incByte_decByte b⟩,
    fun w => ⟨toNat_incWord w, toNat_decWord w, incWord_decWord w⟩⟩

/-! ## Writing one flag (R39) -/

/-- The single-bit mask of a flag has that bit alone. -/
theorem getLsbD_flagMask (f : Flag) (k : Nat) : (1#8 <<< f.bit).getLsbD k = decide (k = f.bit) := by
  have hb := f.bit_lt
  simp only [BitVec.getLsbD_shiftLeft, BitVec.getLsbD_one]
  by_cases hk : k = f.bit
  · subst hk; simp [hb]
  · simp [hk]; omega

/-- A flag write sets the flag's bit and leaves every other bit alone. -/
theorem getLsbD_setFlag (p : Byte) (f : Flag) (v : Bool) (k : Nat) :
    (setFlag p f v).getLsbD k = if k = f.bit then v else p.getLsbD k := by
  cases v
  · simp only [setFlag, Bool.false_eq_true, if_false, BitVec.getLsbD_and, BitVec.getLsbD_not, getLsbD_flagMask]
    by_cases hk : k = f.bit
    · simp [hk]
    · simpa [hk] using BitVec.lt_of_getLsbD
  · simp only [setFlag, if_true, BitVec.getLsbD_or, getLsbD_flagMask]
    by_cases hk : k = f.bit <;> simp [hk]

/-- Settles O29, from the bits of P after a flag write. -/
theorem flagWriteKeepsSiblingBits : Obligations.FlagWriteKeepsSiblingBits := by
  intro p f v₁ v₂
  refine ⟨?_, fun k hk => ?_, fun k hk => ?_⟩
  · rw [getFlag_setFlag, if_pos rfl]
  · rw [getLsbD_setFlag, if_neg hk, getLsbD_setFlag, if_neg hk]
  · rw [getLsbD_setFlag, if_neg hk]

end Sys2Proof.Machine
end

section
/-! PROOFS. The frame of every operation: which registers, which flags, and whether PC it may write (spec/10_state.md R31 to
R45); the lists of writers are read off it. -/

namespace Sys2Proof.Machine

/-- The registers an operation may write (R31 to R33). -/
def Operation.regs : Operation → List Reg
  | .load r _ | .transfer _ r | .register _ r => [r]
  | .adc _ | .sbc _ | .bitwise _ _ | .modify _ .accumulator => [.a]
  | .pla => [.a, .sp]
  | .pha | .php | .plp | .jsr _ | .rts | .rti => [.sp]
  | _ => []

/-- An operation may write a flag (R40 to R45); a read-modify-write may where its new P can differ from the old there. -/
def Operation.WritesFlag : Operation → Flag → Prop
  | .load _ _, g | .bitwise _ _, g | .transfer _ _, g | .register _ _, g | .pla, g => g ∈ [.z, .n]
  | .adc _, g | .sbc _, g => g ∈ [.c, .z, .v, .n]
  | .compare _ _, g => g ∈ [.c, .z, .n]
  | .bit _, g => g ∈ [.z, .v, .n]
  | .flag f _, g => g ∈ [f]
  | .modify f _, g => ∃ p v, getFlag (f p v).2 g ≠ getFlag p g
  | .plp, _ | .rti, _ => True
  | _, g => g ∈ ([] : List Flag)

/-- The operations that may write PC (R36). -/
def Operation.writesPc : Operation → Bool
  | .jump _ | .branch _ _ _ | .jsr _ | .rts | .rti => true
  | _ => false

/-- What an operation that led from `s` to `t` left alone of the registers, P and PC. -/
structure Operation.Frame (op : Operation) (s t : State) : Prop where
  regs  : ∀ q, q ∉ op.regs → t.reg q = s.reg q
  flags : ∀ g, ¬ op.WritesFlag g → t.flag g = s.flag g
  pc    : op.writesPc = false → t.pc = s.pc

/-- The operation that led from `s` to `t` left the registers, P and PC alone. -/
theorem Operation.Frame.of_eq {op : Operation} {s t : State} (hr : ∀ q, t.reg q = s.reg q) (hp : t.p = s.p)
    (hpc : t.pc = s.pc) : op.Frame s t :=
  ⟨fun q _ => hr q, fun g _ => congrArg (getFlag · g) hp, fun _ => hpc⟩

/-- An access has the frame of its continuation, since the fault it may take touches only FAULT. -/
theorem frame_of_attempt {op : Operation} {α : Type} {s t : State} {r : Except Fault α} {k : α → State}
    (h : attempt s r k = .next t) (hk : ∀ v, op.Frame s (k v)) : op.Frame s t := by
  rcases attempt_cases s r k with ⟨v, -, hv⟩ | ⟨f, -, hf⟩
  · rw [hv] at h
    cases h
    exact hk v
  · rw [hf] at h
    cases h
    exact .of_eq (reg_congr rfl rfl rfl rfl) rfl rfl

/-- Writing A and P leaves every register but A. -/
theorem reg_write_a_p (s : State) (a p : Byte) (q : Reg) (h : q ∉ [.a]) :
    ({ s with a := a, p := p } : State).reg q = s.reg q :=
  reg_setReg_other { s with p := p } .a q a (List.ne_of_not_mem_cons h)

/-- Where A, X and Y are left, so is every register but SP. -/
theorem reg_congr_but_sp {s t : State} (ha : t.a = s.a) (hx : t.x = s.x) (hy : t.y = s.y) (q : Reg) (h : q ∉ [.sp]) :
    t.reg q = s.reg q := by
  cases q
  case sp => exact absurd (List.mem_singleton_self _) h
  all_goals assumption

/-- `SetNZ` writes Z and N only (R15). -/
theorem getFlag_statusNZ_other (p v : Byte) {g : Flag} (h : g ∉ [.z, .n]) : getFlag (statusNZ p v) g = getFlag p g := by
  simp only [List.mem_cons, List.not_mem_nil, or_false, not_or] at h
  simp only [getFlag_statusNZ, h, if_false]

/-- No operation writes a register, a flag or PC outside its frame. -/
theorem Operation.run_frame {op : Operation} {s t : State} (h : op.run s = .next t) : op.Frame s t := by
  cases op <;> simp only [Operation.run] at h
  case load r o =>
    refine frame_of_attempt h fun m => ⟨fun q hq => ?_, fun g hg => ?_, fun _ => ?_⟩
    · rw [reg_setNZ, reg_setReg_other s r q m (List.ne_of_not_mem_cons hq)]
    · rw [flag_eq, p_setNZ, p_setReg, getFlag_statusNZ_other _ _ hg, flag_eq]
    · rw [pc_setNZ, pc_setReg]
  case store r m =>
    rw [store_eq] at h
    exact frame_of_attempt h fun _ => .of_eq (reg_congr rfl rfl rfl rfl) rfl rfl
  case adc o =>
    refine frame_of_attempt h fun m => ⟨reg_write_a_p s _ _, fun g hg => ?_, fun _ => rfl⟩
    simp only [Operation.WritesFlag, List.mem_cons, List.not_mem_nil, or_false, not_or] at hg
    simp [getFlag_adcStatus, hg]
  case sbc o =>
    refine frame_of_attempt h fun m => ⟨reg_write_a_p s _ _, fun g hg => ?_, fun _ => rfl⟩
    simp only [Operation.WritesFlag, List.mem_cons, List.not_mem_nil, or_false, not_or] at hg
    simp [getFlag_sbcStatus, hg]
  case compare r o =>
    refine frame_of_attempt h fun m => ⟨fun q _ => reg_congr rfl rfl rfl rfl q, fun g hg => ?_, fun _ => rfl⟩
    simp only [Operation.WritesFlag, List.mem_cons, List.not_mem_nil, or_false, not_or] at hg
    simp [getFlag_compareStatus, hg]
  case bitwise f o =>
    exact frame_of_attempt h fun m =>
      ⟨reg_write_a_p s _ _, fun g hg => getFlag_statusNZ_other s.p _ hg, fun _ => rfl⟩
  case bit o =>
    refine frame_of_attempt h fun m => ⟨fun q _ => reg_congr rfl rfl rfl rfl q, fun g hg => ?_, fun _ => rfl⟩
    simp only [Operation.WritesFlag, List.mem_cons, List.not_mem_nil, or_false, not_or] at hg
    simp [getFlag_bitStatus, hg]
  case jump m =>
    exact frame_of_attempt h fun _ => ⟨fun q _ => reg_congr rfl rfl rfl rfl q, fun _ _ => rfl, nofun⟩
  case branch f v rel =>
    unfold Machine.branch at h
    split at h
    · exact frame_of_attempt h fun _ => ⟨fun q _ => reg_congr rfl rfl rfl rfl q, fun _ _ => rfl, nofun⟩
    · cases h
      exact .of_eq (fun _ => rfl) rfl rfl
  case transfer source r | register f r =>
    cases h
    refine ⟨fun q hq => ?_, fun g hg => ?_, fun _ => ?_⟩
    · rw [reg_setNZ, reg_setReg_other s r q _ (List.ne_of_not_mem_cons hq)]
    · rw [flag_eq, p_setNZ, p_setReg, getFlag_statusNZ_other _ _ hg, flag_eq]
    · rw [pc_setNZ, pc_setReg]
  case flag f v =>
    cases h
    refine ⟨fun q _ => reg_setFlag s f v q, fun g hg => ?_, fun _ => rfl⟩
    rw [flag_eq, p_setFlag, getFlag_setFlag, if_neg (List.ne_of_not_mem_cons hg), flag_eq]
  case modify f o =>
    have hflag {g : Flag} (hg : ¬ (modify f o).WritesFlag g) (p v : Byte) : getFlag (f p v).2 g = getFlag p g :=
      Classical.not_not.mp fun hne => hg ⟨p, v, hne⟩
    cases o with
    | accumulator =>
      cases h
      exact ⟨reg_write_a_p s _ _, fun g hg => hflag hg s.p s.a, fun _ => rfl⟩
    | memory m =>
      rw [readModifyWrite_memory] at h
      exact frame_of_attempt h fun w =>
        ⟨fun q _ => reg_congr rfl rfl rfl rfl q, fun g hg => hflag hg s.p (s.byteAt w), fun _ => rfl⟩
  case pha | php =>
    cases h
    exact ⟨reg_congr_but_sp rfl rfl rfl, fun _ _ => rfl, fun _ => rfl⟩
  case pla =>
    cases h
    refine ⟨fun q hq => ?_, fun g hg => getFlag_statusNZ_other s.p s.top hg, fun _ => rfl⟩
    rw [reg_setNZ, reg_setReg_other _ _ q _ (List.ne_of_not_mem_cons hq)]
    exact reg_congr_but_sp (s := s) (t := s.popped) rfl rfl rfl q (List.not_mem_of_not_mem_cons hq)
  case plp =>
    cases h
    exact ⟨reg_congr_but_sp rfl rfl rfl, fun _ hg => absurd trivial hg, fun _ => rfl⟩
  case brk | nop =>
    cases h
    exact .of_eq (reg_congr rfl rfl rfl rfl) rfl rfl
  case jsr | rts =>
    cases h
    exact ⟨reg_congr_but_sp rfl rfl rfl, fun _ _ => rfl, nofun⟩
  case rti =>
    cases h
    exact ⟨reg_congr_but_sp rfl rfl rfl, fun _ hg => absurd trivial hg, nofun⟩

/-- An instruction leaves alone what its operation does not write. -/
theorem exec_frame {i : Instr} {s t : State} (h : exec i s = .next t) : (operationOf i).Frame s t :=
  Operation.run_frame (exec_eq_run i s ▸ h)

end Sys2Proof.Machine
end

section
/-! PROOFS. The instructions whose operation may write a register, a flag or PC: O18, O19 and O20. -/

namespace Sys2Proof.Machine

/-! ## Registers and PC: reading the table of operations -/

theorem mnemonic_of_writes_a {i : Instr} : .a ∈ (operationOf i).regs →
    i.mnemonic ∈ [.lda, .adc, .sbc, .and, .eor, .ora, .txa, .tya, .pla] ∨ i ∈ [.aslAcc, .lsrAcc, .rolAcc, .rorAcc] :=
  of_decide_eq_true (by cases i <;> rfl)

theorem mnemonic_of_writes_x {i : Instr} : .x ∈ (operationOf i).regs → i.mnemonic ∈ [.ldx, .tax, .tsx, .inx, .dex] :=
  of_decide_eq_true (by cases i <;> rfl)

theorem mnemonic_of_writes_y {i : Instr} : .y ∈ (operationOf i).regs → i.mnemonic ∈ [.ldy, .tay, .iny, .dey] :=
  of_decide_eq_true (by cases i <;> rfl)

theorem mnemonic_of_writes_sp {i : Instr} : .sp ∈ (operationOf i).regs →
    i.mnemonic ∈ [.txs, .pha, .php, .pla, .plp, .jsr, .rts, .rti] :=
  of_decide_eq_true (by cases i <;> rfl)

theorem mnemonic_of_writes_pc {i : Instr} : (operationOf i).writesPc = true →
    i.mnemonic ∈ [.jmp, .bcc, .bcs, .beq, .bmi, .bne, .bpl, .bvc, .bvs, .jsr, .rts, .rti] :=
  of_decide_eq_true (by cases i <;> rfl)

/-- Settles O18, from the registers each operation may write. -/
theorem registerWriters : Obligations.RegisterWriters := by
  intro i s t h
  have hf := (exec_frame h).regs
  refine ⟨fun hm hacc => hf .a fun hw => ?_, fun hm => hf .x fun hw => hm (mnemonic_of_writes_x hw),
    fun hm => hf .y fun hw => hm (mnemonic_of_writes_y hw), fun hm => hf .sp fun hw => hm (mnemonic_of_writes_sp hw)⟩
  exact (mnemonic_of_writes_a hw).elim hm hacc

/-- Settles O20, from the operations that may write PC. -/
theorem onlyControlTransfersMoveThePc : Obligations.OnlyControlTransfersMoveThePc := fun _ _ _ h hm =>
  (exec_frame h).pc (Bool.eq_false_iff.mpr fun hw => hm (mnemonic_of_writes_pc hw))

/-! ## Flags -/

/-- The flags an instruction of each mnemonic may write (R40 to R45). -/
def flagsOf : Mnemonic → List Flag
  | .adc | .sbc => [.c, .z, .v, .n]
  | .cmp | .cpx | .cpy | .asl | .lsr | .rol | .ror => [.c, .z, .n]
  | .bit => [.z, .v, .n]
  | .clc | .sec => [.c]
  | .cli | .sei => [.i]
  | .cld | .sed => [.d]
  | .clv => [.v]
  | .plp | .rti => [.c, .z, .i, .d, .b, .u, .v, .n]
  | .lda | .ldx | .ldy | .and | .eor | .ora | .tax | .tay | .txa | .tya | .txs | .tsx | .pla => [.z, .n]
  | .inc | .dec | .inx | .iny | .dex | .dey => [.z, .n]
  | _ => []

/-- The P of a shift or rotate differs from the old in C, Z and N at most (R322 to R325). -/
theorem mem_of_shift_writes {g : Flag} {p r : Byte} {c : Bool}
    (h : getFlag (statusNZ (setFlag p .c c) r) g ≠ getFlag p g) : g ∈ [.c, .z, .n] := by
  revert h
  cases g <;> simp [getFlag_statusNZ, getFlag_setFlag]

/-- The P of an increment or decrement differs from the old in Z and N at most (R326, R327). -/
theorem mem_of_statusNZ_writes {g : Flag} {p r : Byte} (h : getFlag (statusNZ p r) g ≠ getFlag p g) : g ∈ [.z, .n] :=
  Classical.not_not.mp fun hg => h (getFlag_statusNZ_other p r hg)

/-- The operation of an instruction writes flags of its mnemonic's list only. -/
theorem mem_flagsOf_of_writesFlag {i : Instr} {g : Flag} (h : (operationOf i).WritesFlag g) : g ∈ flagsOf i.mnemonic := by
  cases i
  case aslAcc | aslZp | aslZpX | aslAbs | aslAbsX | lsrAcc | lsrZp | lsrZpX | lsrAbs | lsrAbsX
      | rolAcc | rolZp | rolZpX | rolAbs | rolAbsX | rorAcc | rorZp | rorZpX | rorAbs | rorAbsX =>
    obtain ⟨p, v, h⟩ := h
    exact mem_of_shift_writes h
  case incZp | incZpX | incAbs | incAbsX | decZp | decZpX | decAbs | decAbsX =>
    obtain ⟨p, v, h⟩ := h
    exact mem_of_statusNZ_writes h
  case plp | rti => cases g <;> decide
  all_goals exact h

/-- An instruction leaves every flag outside its mnemonic's list. -/
theorem exec_flag {i : Instr} {s t : State} (h : exec i s = .next t) {g : Flag} (hg : g ∉ flagsOf i.mnemonic) :
    t.flag g = s.flag g :=
  (exec_frame h).flags g fun hw => hg (mem_flagsOf_of_writesFlag hw)

/-- Settles O19: a mnemonic outside a list of writers has not that flag among its own. -/
theorem flagWriters : Obligations.FlagWriters := by
  intro i s t h
  have hf {g : Flag} := exec_flag h (g := g)
  generalize i.mnemonic = m at hf ⊢
  refine ⟨fun hm => hf ?_, fun hm hm' => ⟨hf ?_, hf ?_⟩, fun hm => hf ?_, fun hm => hf ?_, fun hm => hf ?_,
    fun hm => ⟨hf ?_, hf ?_⟩⟩
  all_goals
    clear hf
    revert m
    intro m
    cases m <;> decide

end Sys2Proof.Machine
end

section
/-! PROOFS. I, D, B and U gate nothing (spec/10_state.md R43 to R45): writing one of them first commutes with every operation but
PHP, up to that flag. -/

namespace Sys2Proof.Machine

/-- The flags that are stored and read back only: I, D, B and U. -/
def Flag.Stored (f : Flag) : Prop := f ∈ [.i, .d, .b, .u]

/-- No stored flag is one that the computations read or write. -/
theorem Flag.Stored.ne {f : Flag} (hf : f.Stored) : f ≠ .c ∧ f ≠ .z ∧ f ≠ .v ∧ f ≠ .n := by
  simp only [Flag.Stored, List.mem_cons, List.not_mem_nil, or_false] at hf
  rcases hf with rfl | rfl | rfl | rfl <;> decide

/-! ## Writing a stored flag commutes with the computations of P -/

/-- The later of two writes of one flag counts. -/
theorem setFlag_setFlag_same (p : Byte) (f : Flag) (v w : Bool) : setFlag (setFlag p f v) f w = setFlag p f w :=
  status_ext fun g => by by_cases h : g = f <;> simp [getFlag_setFlag, h]

/-- Writes of two flags commute. -/
theorem setFlag_comm (p : Byte) {f g : Flag} (h : f ≠ g) (v w : Bool) :
    setFlag (setFlag p f v) g w = setFlag (setFlag p g w) f v :=
  status_ext fun k => by by_cases hg : k = g <;> simp [getFlag_setFlag, hg, h.symm]

section
variable {f : Flag} (hf : f.Stored) (v : Bool)
include hf

theorem carryIn_setFlag (p : Byte) : carryIn (setFlag p f v) = carryIn p := by
  obtain ⟨hc, -⟩ := hf.ne
  rw [carryIn, getFlag_setFlag, if_neg hc.symm, carryIn]

theorem statusNZ_setFlag (p r : Byte) : statusNZ (setFlag p f v) r = setFlag (statusNZ p r) f v := by
  obtain ⟨-, hz, -, hn⟩ := hf.ne
  rw [statusNZ, setFlag_comm p hz, setFlag_comm _ hn, statusNZ]

theorem adcValue_setFlag (p a m : Byte) : adcValue (setFlag p f v) a m = adcValue p a m := by
  rw [adcValue, carryIn_setFlag hf, adcValue]

theorem adcStatus_setFlag (p a m : Byte) : adcStatus (setFlag p f v) a m = setFlag (adcStatus p a m) f v := by
  obtain ⟨hc, -, hv, -⟩ := hf.ne
  simp only [adcStatus, adcOverflow, carryIn_setFlag hf, adcValue_setFlag hf, setFlag_comm _ hv, setFlag_comm _ hc,
    statusNZ_setFlag hf]

theorem sbcValue_setFlag (p a m : Byte) : sbcValue (setFlag p f v) a m = sbcValue p a m := by
  rw [sbcValue, borrowIn, carryIn_setFlag hf, sbcValue, borrowIn]

theorem sbcStatus_setFlag (p a m : Byte) : sbcStatus (setFlag p f v) a m = setFlag (sbcStatus p a m) f v := by
  obtain ⟨hc, -, hv, -⟩ := hf.ne
  simp only [sbcStatus, sbcOverflow, borrowIn, carryIn_setFlag hf, sbcValue_setFlag hf, setFlag_comm _ hv, setFlag_comm _ hc,
    statusNZ_setFlag hf]

theorem compareStatus_setFlag (p r m : Byte) : compareStatus (setFlag p f v) r m = setFlag (compareStatus p r m) f v := by
  obtain ⟨hc, -⟩ := hf.ne
  rw [compareStatus, setFlag_comm p hc, statusNZ_setFlag hf, compareStatus]

theorem bitStatus_setFlag (p a m : Byte) : bitStatus (setFlag p f v) a m = setFlag (bitStatus p a m) f v := by
  obtain ⟨-, hz, hv, hn⟩ := hf.ne
  rw [bitStatus, setFlag_comm p hz, setFlag_comm _ hn, setFlag_comm _ hv, bitStatus]

/-- `SetNZ` commutes with writing a stored flag. -/
theorem setNZ_setFlag (s : State) (r : Byte) : (s.setFlag f v).setNZ r = (s.setNZ r).setFlag f v := by
  simp only [State.setNZ, State.setFlag, statusNZ_setFlag hf]

end

/-! ## No operation but PHP reads a stored flag -/

@[simp] theorem State.setFlag_setFlag_same (s : State) (f : Flag) (v w : Bool) :
    (s.setFlag f v).setFlag f w = s.setFlag f w := by
  simp only [State.setFlag, Machine.setFlag_setFlag_same]

theorem setReg_setFlag (s : State) (r : Reg) (b : Byte) (f : Flag) (v : Bool) :
    (s.setFlag f v).setReg r b = (s.setReg r b).setFlag f v := by
  cases r <;> rfl

@[simp] theorem effectiveAddress_setFlag (m : MemOperand) (s : State) (f : Flag) (v : Bool) :
    effectiveAddress m (s.setFlag f v) = effectiveAddress m s :=
  effectiveAddress_congr rfl rfl rfl rfl m

@[simp] theorem readOperand_setFlag (o : Operand) (s : State) (f : Flag) (v : Bool) :
    readOperand o (s.setFlag f v) = readOperand o s := by
  cases o with
  | immediate b => rfl
  | memory m =>
    rw [readOperand_memory, readOperand_memory, effectiveAddress_setFlag]
    rfl

/-- A read-modify-write computation commutes with writing `f`. -/
def CommutesWithFlag (f : Flag) (op : Byte → Byte → Byte × Byte) : Prop :=
  ∀ (v : Bool) (p b : Byte), op (setFlag p f v) b = ((op p b).1, setFlag (op p b).2 f v)

/-- The operation neither tests nor stores the flag `f`, and computes P without it. -/
def Operation.Ignores (f : Flag) : Operation → Prop
  | .branch g _ _ => g ≠ f
  | .modify op _ => CommutesWithFlag f op
  | .php => False
  | _ => True

section
variable {f : Flag} {v : Bool} {s t : State}

/-- A result that commutes with writing the flag agrees up to it. -/
theorem agrees_of_commutes {r : Result} (h : r = .next (t.setFlag f v)) :
    ∃ u, r = .next u ∧ u.setFlag f v = t.setFlag f v :=
  ⟨_, h, State.setFlag_setFlag_same t f v v⟩

/-- An access that goes the same way on both states agrees up to the flag, if its continuation commutes with writing it. -/
theorem attempt_setFlag {α : Type} {r : Except Fault α} {k k' : α → State} (h : attempt s r k = .next t)
    (hk : ∀ a, k' a = (k a).setFlag f v) :
    ∃ u, attempt (s.setFlag f v) r k' = .next u ∧ u.setFlag f v = t.setFlag f v := by
  apply agrees_of_commutes
  rcases attempt_cases s r k with ⟨a, rfl, ha⟩ | ⟨e, rfl, he⟩
  · rw [ha] at h
    cases h
    exact congrArg Host.Outcome.next (hk a)
  · rw [he] at h
    cases h
    rfl

/-- An operation that ignores a stored flag answers the same with that flag written first, up to the flag. -/
theorem Operation.run_setFlag {op : Operation} (hf : f.Stored) (hop : op.Ignores f) (h : op.run s = .next t) :
    ∃ u, op.run (s.setFlag f v) = .next u ∧ u.setFlag f v = t.setFlag f v := by
  cases op <;> simp only [Operation.run] at h ⊢
  case load r o =>
    rw [Machine.load, readOperand_setFlag]
    refine attempt_setFlag h fun m => ?_
    rw [setReg_setFlag, setNZ_setFlag hf]
  case store r m =>
    rw [store_eq] at h ⊢
    rw [effectiveAddress_setFlag, reg_setFlag]
    exact attempt_setFlag h fun _ => rfl
  case adc o =>
    rw [addWithCarry, readOperand_setFlag]
    refine attempt_setFlag h fun m => ?_
    rw [p_setFlag, a_setFlag, adcValue_setFlag hf, adcStatus_setFlag hf]
    rfl
  case sbc o =>
    rw [subtractWithBorrow, readOperand_setFlag]
    refine attempt_setFlag h fun m => ?_
    rw [p_setFlag, a_setFlag, sbcValue_setFlag hf, sbcStatus_setFlag hf]
    rfl
  case compare r o =>
    rw [Machine.compare, readOperand_setFlag, reg_setFlag]
    refine attempt_setFlag h fun m => ?_
    rw [p_setFlag, compareStatus_setFlag hf]
    rfl
  case bitwise op o =>
    rw [Machine.bitwise, readOperand_setFlag]
    exact attempt_setFlag h fun m => setNZ_setFlag hf v { s with a := op s.a m } (op s.a m)
  case bit o =>
    rw [bitTest, readOperand_setFlag]
    refine attempt_setFlag h fun m => ?_
    rw [p_setFlag, a_setFlag, bitStatus_setFlag hf]
    rfl
  case jump m =>
    rw [Machine.jump, effectiveAddress_setFlag]
    exact attempt_setFlag h fun _ => rfl
  case branch g w rel =>
    have hg : (s.setFlag f v).flag g = s.flag g := by
      rw [flag_eq, p_setFlag, getFlag_setFlag, if_neg hop, flag_eq]
    rw [Machine.branch] at h ⊢
    by_cases ht : s.flag g = w
    · rw [if_pos ht] at h
      rw [hg, if_pos ht]
      exact attempt_setFlag h fun _ => rfl
    · rw [if_neg ht] at h
      cases h
      rw [hg, if_neg ht]
      exact agrees_of_commutes rfl
  case transfer source r =>
    cases h
    apply agrees_of_commutes
    rw [Machine.transfer, reg_setFlag, setReg_setFlag, setNZ_setFlag hf]
  case register op r =>
    cases h
    apply agrees_of_commutes
    rw [stepRegister, reg_setFlag, setReg_setFlag, setNZ_setFlag hf]
  case flag g w =>
    cases h
    refine ⟨_, rfl, ?_⟩
    by_cases hg : f = g
    · simp [hg]
    · simp only [State.setFlag, setFlag_comm _ hg, setFlag_setFlag_same]
  case modify op o =>
    cases o with
    | accumulator =>
      cases h
      apply agrees_of_commutes
      rw [readModifyWrite_accumulator, p_setFlag, a_setFlag, hop]
      rfl
    | memory m =>
      rw [readModifyWrite_memory] at h ⊢
      rw [effectiveAddress_setFlag]
      refine attempt_setFlag h fun w => ?_
      rw [p_setFlag, hop]
      rfl
  case php => exact hop.elim
  case pla =>
    cases h
    exact agrees_of_commutes (congrArg Host.Outcome.next (setNZ_setFlag hf v (s.popped.setReg .a s.top) s.top))
  case plp | rti =>
    cases h
    exact ⟨_, rfl, rfl⟩
  case pha | brk | nop | jsr | rts =>
    cases h
    exact agrees_of_commutes rfl

end

/-! ## Every instruction but PHP ignores the stored flags -/

/-- The shifts and rotates read and write C, Z and N only, the increments and decrements Z and N. -/
theorem commutesWithFlag_modify {f : Flag} (hf : f.Stored) :
    ∀ op ∈ [aslOp, lsrOp, rolOp, rorOp, incOp, decOp], CommutesWithFlag f op := by
  obtain ⟨hc, -⟩ := hf.ne
  simp [CommutesWithFlag, aslOp, lsrOp, rolOp, rorOp, incOp, decOp, setFlag_comm _ hc, statusNZ_setFlag hf,
    carryIn_setFlag hf]

/-- Every instruction but PHP ignores the stored flags. -/
theorem operationOf_ignores {i : Instr} {f : Flag} (hf : f.Stored) (hi : i ≠ .php) : (operationOf i).Ignores f := by
  obtain ⟨hc, hz, hv, hn⟩ := hf.ne
  have hm := commutesWithFlag_modify hf
  cases i
  case php => exact hi rfl
  case bcc | bcs => exact hc.symm
  case beq | bne => exact hz.symm
  case bmi | bpl => exact hn.symm
  case bvc | bvs => exact hv.symm
  case aslAcc | aslZp | aslZpX | aslAbs | aslAbsX | lsrAcc | lsrZp | lsrZpX | lsrAbs | lsrAbsX
      | rolAcc | rolZp | rolZpX | rolAbs | rolAbsX | rorAcc | rorZp | rorZpX | rorAbs | rorAbsX
      | incZp | incZpX | incAbs | incAbsX | decZp | decZpX | decAbs | decAbsX => exact hm _ (by simp)
  all_goals trivial

/-- Settles O23, operation by operation: all but PHP ignore the stored flags. -/
theorem storedFlagsGateNothing : Obligations.StoredFlagsGateNothing := by
  intro i f v s t hf hi h
  rw [exec_eq_run] at h ⊢
  exact Operation.run_setFlag hf (operationOf_ignores hf hi) h

end Sys2Proof.Machine
end

section
/-! PROOFS. The memory family (spec/20_memory.md): the laws of reading and writing cells, what a store, a load and the host's
accesses leave in memory, and the invariant every step keeps. -/

namespace Sys2Proof.Machine

/-! ## The invariant (R60, R122) -/

/-- Settles O10: a refusal leaves memory alone and FAULT clear, an instruction keeps memory canonical and REFUSED clear. -/
theorem stepKeepsTheInvariant : Obligations.StepKeepsTheInvariant := fun _ _ hs h => (step_keeps_inv_params hs h).1

/-! ## Reading after writing (R61) -/

/-- A read of a nonempty memory looks at its first cell, then at the others. -/
theorem Memory.read_cons (b : Nat) (w : Byte) (m : Memory) (a : Nat) :
    Memory.read ((b, w) :: m) a = if a = b then w else m.read a := by
  simp only [Memory.read, eq_comm]

/-- A canonical memory's first cell hides nothing: its address reads as blank in the rest. -/
theorem Memory.read_tail {b : Nat} {w : Byte} {m : Memory} (h : Memory.wf ((b, w) :: m)) : m.read b = Memory.blank :=
  Memory.read_of_lt (Memory.wf_cons.mp h).1

/-- All the cells of a canonical memory lie above an address below its first. -/
theorem Memory.above_of_lt_head {a b : Nat} {w : Byte} {m : Memory} (h : Memory.wf ((b, w) :: m)) (hab : a < b) :
    ∀ c ∈ ((b, w) :: m : Memory), a < c.1 := by
  obtain ⟨hlt, -⟩ := Memory.wf_cons.mp h
  exact List.forall_mem_cons.mpr ⟨hab, fun c hc => Nat.lt_trans hab (hlt c hc)⟩

/-- Listing `v` at an address that read as blank, or nothing where `v` is blank, makes it read as `v`. -/
theorem Memory.read_cons_unless_blank {m : Memory} {a : Nat} (h : m.read a = Memory.blank) (v : Byte) (b : Nat) :
    Memory.read (if v = Memory.blank then m else (a, v) :: m) b = if b = a then v else m.read b := by
  split
  next hv =>
    by_cases hb : b = a
    · rw [if_pos hb, hb, h, hv]
    · rw [if_neg hb]
  next => exact Memory.read_cons a v m b

/-- What a canonical memory reads after a write: the byte written in its cell, every other cell as before. -/
theorem Memory.read_write {m : Memory} (h : m.wf) (a b : Nat) (v : Byte) :
    (m.write a v).read b = if b = a then v else m.read b := by
  induction m with
  | nil => exact Memory.read_cons_unless_blank rfl v b
  | cons c m ih =>
    obtain ⟨d, w⟩ := c
    simp only [Memory.write]
    split
    next had => exact Memory.read_cons_unless_blank (Memory.read_of_lt (Memory.above_of_lt_head h had)) v b
    next =>
      split
      next had =>
        subst had
        rw [Memory.read_cons_unless_blank (Memory.read_tail h), Memory.read_cons]
        by_cases hb : b = a <;> simp [hb]
      next had =>
        obtain ⟨-, -, -, hm⟩ := Memory.wf_cons.mp h
        rw [Memory.read_cons, Memory.read_cons, ih hm]
        by_cases hb : b = d
        · simp [hb, Ne.symm had]
        · simp [hb]

/-- Settles O7, by induction on the listed cells. -/
theorem memoryReadAfterWrite : Obligations.MemoryReadAfterWrite := fun _ a b v h => Memory.read_write h a b v

/-! ## Canonical memories are equal when they read alike (R60, R61) -/

/-- A memory that reads like a canonical one has not all its cells above the other's first, which is not blank. -/
theorem Memory.not_above_of_read_eq {b : Nat} {w : Byte} {m n : Memory} (h : Memory.wf ((b, w) :: m))
    (hr : ∀ a, Memory.read ((b, w) :: m) a = n.read a) : ¬ ∀ c ∈ n, b < c.1 := by
  intro habove
  obtain ⟨-, hw, -⟩ := Memory.wf_cons.mp h
  apply hw
  calc w = Memory.read ((b, w) :: m) b := by rw [Memory.read_cons, if_pos rfl]
    _ = n.read b := hr b
    _ = Memory.blank := Memory.read_of_lt habove

/-- Canonical memories that read alike list the same cells. -/
theorem Memory.ext_read {m n : Memory} (hm : m.wf) (hn : n.wf) (hr : ∀ a, m.read a = n.read a) : m = n := by
  induction m generalizing n with
  | nil =>
    cases n with
    | nil => rfl
    | cons d n => exact absurd (fun c hc => nomatch hc) (Memory.not_above_of_read_eq hn fun a => (hr a).symm)
  | cons c m ih =>
    obtain ⟨b, v⟩ := c
    cases n with
    | nil => exact absurd (fun c hc => nomatch hc) (Memory.not_above_of_read_eq hm hr)
    | cons d n =>
      obtain ⟨d, w⟩ := d
      have h1 : ¬ b < d := fun h => Memory.not_above_of_read_eq hm hr (Memory.above_of_lt_head hn h)
      have h2 : ¬ d < b := fun h =>
        Memory.not_above_of_read_eq hn (fun a => (hr a).symm) (Memory.above_of_lt_head hm h)
      obtain rfl : b = d := by omega
      simp only [Memory.read_cons] at hr
      obtain rfl : v = w := by simpa using hr b
      have htails : ∀ a, Memory.read m a = Memory.read n a := by
        intro a
        by_cases ha : a = b
        · rw [ha, Memory.read_tail hm, Memory.read_tail hn]
        · simpa [ha] using hr a
      obtain ⟨-, -, -, hm⟩ := Memory.wf_cons.mp hm
      obtain ⟨-, -, -, hn⟩ := Memory.wf_cons.mp hn
      rw [ih hm hn htails]

/-- Settles O8, cell by cell from the lowest address. -/
theorem memoriesThatReadAlikeAreEqual : Obligations.MemoriesThatReadAlikeAreEqual := fun _ _ => Memory.ext_read

/-! ## The bounds check (R62) -/

/-- Settles O9: both accesses test the interval of the address space first. -/
theorem accessesAreBoundsChecked : Obligations.AccessesAreBoundsChecked := by
  intro s addr v
  have hrange : inRange addr = true ↔ 0 ≤ addr ∧ addr < 65536 := by rw [inRange_iff]; omega
  rw [← hrange]
  exact ⟨fun h => ⟨if_neg h, if_neg h⟩, fun h => ⟨if_pos h, if_pos h⟩⟩

/-! ## A store and the next fetch (R78) -/

/-- The table of stores gives each store the operands of its operation. -/
theorem operationOf_of_storeForm {i : Instr} {r : Reg} {m : MemOperand} (h : storeForm i = some (r, m)) :
    operationOf i = .store r m := by
  cases i <;> cases h <;> rfl

/-- A store whose address resolves writes the register there and nothing else. -/
theorem exec_of_storeForm {i : Instr} {r : Reg} {m : MemOperand} {s : State} {w : Word} (h : storeForm i = some (r, m))
    (hw : effectiveAddress m s = .ok w) : exec i s = .next { s with mem := s.mem.write w.toNat (s.reg r) } := by
  rw [exec_eq_run, operationOf_of_storeForm h]
  exact (store_eq r m s).trans (by rw [hw, attempt_ok])

/-- Settles O27: the fetch reads the memory the store wrote. -/
theorem storeIsSeenByTheNextFetch : Obligations.StoreIsSeenByTheNextFetch := by
  intro i r m s t w hwf hi hw h
  rw [exec_of_storeForm hi hw] at h
  cases h
  exact congrArg some ((Memory.read_write hwf w.toNat w.toNat (s.reg r)).trans (if_pos rfl))

/-! ## The host's accesses (R71 to R73) -/

/-- Storing bytes that fit below the end of memory puts them from the address on and leaves every other cell. -/
theorem Memory.read_storeBytes {m : Memory} (h : m.wf) (bs : List Byte) (n : Nat) (hn : n + bs.length ≤ 65536) (k : Nat) :
    (storeBytes bs (BitVec.ofNat 16 n) m).read k =
      if n ≤ k then bs[k - n]?.getD (m.read k) else m.read k := by
  induction bs generalizing n m with
  | nil => simp [storeBytes]
  | cons b bs ih =>
    rw [List.length_cons] at hn
    have haddr : (BitVec.ofNat 16 n).toNat = n := Nat.mod_eq_of_lt (by omega)
    have hnext : BitVec.ofNat 16 n + 1 = BitVec.ofNat 16 (n + 1) := (BitVec.ofNat_add n 1).symm
    rw [storeBytes, haddr, hnext, ih (Memory.wf_write h (by omega) b) (n + 1) (by omega), Memory.read_write h]
    rcases Nat.lt_trichotomy k n with hk | rfl | hk
    · rw [if_neg (by omega), if_neg (by omega), if_neg (by omega)]
    · simp
    · rw [if_pos (by omega), if_neg (by omega), if_pos (by omega), show k - n = k - (n + 1) + 1 by omega,
        List.getElem?_cons_succ]

/-- Settles O57: the image is stored from address 0, where no address of it wraps. -/
theorem loadInstallsTheImageAtZero : Obligations.LoadInstallsTheImageAtZero := by
  intro bytes s hwf
  refine ⟨fun hlen => ⟨_, if_pos (decide_eq_true hlen), fun k => ?_, rfl⟩,
    fun hlen => if_neg (by simpa [imageWf] using hlen)⟩
  have hread := Memory.read_storeBytes hwf bytes 0 (by omega) k
  rw [if_pos (Nat.zero_le k), Nat.sub_zero] at hread
  refine hread.trans ?_
  split
  next h => rw [List.getElem?_eq_getElem h, Option.getD_some]
  next h => rw [List.getElem?_eq_none (by omega), Option.getD_none]

/-- The dump's byte at an index is the cell there. -/
theorem getElem?_hostDump (s : State) (w : Word) : (hostDump s)[w.toNat]? = some (s.mem.read w.toNat) := by
  rw [hostDump, List.getElem?_map, List.getElem?_range w.isLt, Option.map_some]

/-- Settles O60: `Dump` lists the cells by address, `Poke` is one write, `Peek` reads and emits. -/
theorem hostReadsAndPatchesMemory : Obligations.HostReadsAndPatchesMemory := fun s w v hwf =>
  ⟨by rw [hostDump, List.length_map, List.length_range], getElem?_hostDump s w,
    fun addr => Memory.read_write hwf w.toNat addr v, rfl, rfl⟩

end Sys2Proof.Machine
end

section
/-! PROOFS. The encoding family (spec/30_encoding.md): the decoder and the encoder undo each other, the opcode table is a
bijection, and the catalog, its sizes and its classes of bytes. -/

namespace Sys2Proof

/-! ## Decoding an opcode byte (R90, R96) -/

theorem decode_of_defined {b : Byte} {f : Form} (h : formOf b = some f) (bs : List Byte) :
    decode (b :: bs) = f.fill bs := by
  rw [decode, h]

theorem decode_of_undefined {b : Byte} (h : formOf b = none) (bs : List Byte) :
    decode (b :: bs) = .error (.undefinedByte b) := by
  rw [decode, h]

/-! ## Decoding what was encoded (R92, R94) -/

/-- The form stands for the instruction under some operand. -/
def Form.Makes : Form → Instr → Prop
  | .none j, i => j = i
  | .byte mk, i => ∃ o, mk o = i
  | .word mk, i => ∃ w, mk w = i

/-- The table's form at an instruction's byte stands for the instruction. -/
theorem exists_form_makes (i : Instr) : ∃ f, formOf i.opcodeByte = some f ∧ f.Makes i := by
  cases i <;> exact ⟨_, rfl, by simp [Form.Makes]⟩

/-- The encoding of any instruction is read back, and the bytes after it are handed on. -/
theorem decode_encode (i : Instr) (rest : List Byte) : decode (encode i ++ rest) = .ok (i, rest) := by
  obtain ⟨f, hf, hi⟩ := exists_form_makes i
  have henc := encode_of_formOf hf
  cases f with
  | none j =>
    obtain rfl := hi
    rw [henc]
    exact decode_of_defined hf rest
  | byte mk =>
    obtain ⟨o, rfl⟩ := hi
    rw [henc o]
    exact decode_of_defined hf (o :: rest)
  | word mk =>
    obtain ⟨w, rfl⟩ := hi
    rw [henc w]
    exact (decode_of_defined hf (loByte w :: hiByte w :: rest)).trans (by rw [Form.fill, wordOf_lo_hi])

/-- Settles O1, by the three forms an opcode byte can have. -/
theorem decodeOfEncodeIsTheInstruction : Obligations.DecodeOfEncodeIsTheInstruction := decode_encode

/-! ## Encoding what was decoded (R90 to R92) -/

/-- The bytes a form of the table is filled from are the operand bytes of the instruction it gives. -/
theorem cons_eq_encode_of_fill {b : Byte} {f : Form} {bs rest : List Byte} {i : Instr} (hf : formOf b = some f)
    (h : f.fill bs = .ok (i, rest)) : b :: bs = encode i ++ rest := by
  have henc := encode_of_formOf hf
  match f, bs with
  | .none _, _ =>
    cases h
    rw [henc]
    rfl
  | .byte _, o :: _ =>
    cases h
    rw [henc o]
    rfl
  | .word _, lo :: hi :: _ =>
    cases h
    rw [henc, loByte_wordOf, hiByte_wordOf]
    rfl
  | .byte _, [] | .word _, [] | .word _, [_] => cases h

/-- Settles O2: what is read at a defined byte comes from filling the byte's form. -/
theorem decodedBytesAreTheEncoding : Obligations.DecodedBytesAreTheEncoding := by
  intro bytes i rest h
  cases bytes with
  | nil => cases h
  | cons b bs =>
    cases hf : formOf b with
    | none =>
      rw [decode_of_undefined hf] at h
      cases h
    | some f =>
      rw [decode_of_defined hf] at h
      exact cons_eq_encode_of_fill hf h

/-! ## The opcode table is a bijection (R94, R98) -/

/-- The encoding byte of each mode of a mnemonic, in the order of `Mnemonic.modes` (R98). -/
def Mnemonic.bytes : Mnemonic → List Byte
  | .lda => [0xA9, 0xA5, 0xB5, 0xAD, 0xBD, 0xB9, 0xA1, 0xB1]
  | .adc => [0x69, 0x65, 0x75, 0x6D, 0x7D, 0x79, 0x61, 0x71]
  | .sbc => [0xE9, 0xE5, 0xF5, 0xED, 0xFD, 0xF9, 0xE1, 0xF1]
  | .cmp => [0xC9, 0xC5, 0xD5, 0xCD, 0xDD, 0xD9, 0xC1, 0xD1]
  | .and => [0x29, 0x25, 0x35, 0x2D, 0x3D, 0x39, 0x21, 0x31]
  | .eor => [0x49, 0x45, 0x55, 0x4D, 0x5D, 0x59, 0x41, 0x51]
  | .ora => [0x09, 0x05, 0x15, 0x0D, 0x1D, 0x19, 0x01, 0x11]
  | .ldx => [0xA2, 0xA6, 0xB6, 0xAE, 0xBE]
  | .ldy => [0xA0, 0xA4, 0xB4, 0xAC, 0xBC]
  | .sta => [0x85, 0x95, 0x8D, 0x9D, 0x99, 0x81, 0x91]
  | .stx => [0x86, 0x96, 0x8E]
  | .sty => [0x84, 0x94, 0x8C]
  | .cpx => [0xE0, 0xE4, 0xEC]
  | .cpy => [0xC0, 0xC4, 0xCC]
  | .bit => [0x24, 0x2C]
  | .jmp => [0x4C, 0x6C]
  | .bcc => [0x90] | .bcs => [0xB0] | .beq => [0xF0] | .bmi => [0x30]
  | .bne => [0xD0] | .bpl => [0x10] | .bvc => [0x50] | .bvs => [0x70]
  | .tax => [0xAA] | .tay => [0xA8] | .txa => [0x8A] | .tya => [0x98] | .txs => [0x9A] | .tsx => [0xBA]
  | .pha => [0x48] | .php => [0x08] | .pla => [0x68] | .plp => [0x28]
  | .clc => [0x18] | .sec => [0x38] | .cli => [0x58] | .sei => [0x78] | .cld => [0xD8] | .sed => [0xF8] | .clv => [0xB8]
  | .brk => [0x00] | .nop => [0xEA]
  | .asl => [0x0A, 0x06, 0x16, 0x0E, 0x1E]
  | .lsr => [0x4A, 0x46, 0x56, 0x4E, 0x5E]
  | .rol => [0x2A, 0x26, 0x36, 0x2E, 0x3E]
  | .ror => [0x6A, 0x66, 0x76, 0x6E, 0x7E]
  | .inc => [0xE6, 0xF6, 0xEE, 0xFE]
  | .dec => [0xC6, 0xD6, 0xCE, 0xDE]
  | .inx => [0xE8] | .iny => [0xC8] | .dex => [0xCA] | .dey => [0x88]
  | .jsr => [0x20] | .rts => [0x60] | .rti => [0x40]

/-- The byte of an OpCode of the catalog, R94's `encoding_for`. -/
def OpCode.encodingFor (op : OpCode) : Option Byte := (op.mnemonic.modes.zip op.mnemonic.bytes).lookup op.mode

/-- The OpCode of a defined byte, R94's `opcode_for`. -/
def opCodeFor (b : Byte) : Option OpCode := (formOf b).map fun f => f.sample.opCode

/-- The bytes of a mnemonic have the mnemonic's OpCodes, one for each of its modes. -/
theorem map_opCodeFor_bytes (m : Mnemonic) : m.bytes.map opCodeFor = m.modes.map fun mode => some ⟨m, mode⟩ := by
  cases m <;> rfl

/-- The byte of an instruction is the one of its OpCode. -/
theorem encodingFor_opCode (i : Instr) : i.opCode.encodingFor = some i.opcodeByte := by
  cases i <;> rfl

theorem opCodeFor_opcodeByte (i : Instr) : opCodeFor i.opcodeByte = some i.opCode := by
  obtain ⟨f, hf, hop⟩ := formOf_opcodeByte i
  rw [opCodeFor, hf, Option.map_some, hop]

/-- `encoding_for` and `opcode_for` take the byte and the OpCode of an instruction to each other. -/
theorem opcodeByte_eq_iff (i j : Instr) : i.opcodeByte = j.opcodeByte ↔ i.opCode = j.opCode := by
  constructor <;> intro h
  · exact Option.some.inj (by rw [← opCodeFor_opcodeByte i, h, opCodeFor_opcodeByte j])
  · exact Option.some.inj (by rw [← encodingFor_opCode i, h, encodingFor_opCode j])

/-- The sample of a byte's form has the byte. -/
theorem opcodeByte_sample {b : Byte} {f : Form} (h : formOf b = some f) : f.sample.opcodeByte = b := by
  have henc := encode_of_formOf h
  cases f with
  | none i => exact congrArg (List.headD · 0) henc
  | byte mk => exact congrArg (List.headD · 0) (henc 0)
  | word mk => exact congrArg (List.headD · 0) (henc 0)

/-- Settles O3: `opcode_for` and `encoding_for` undo each other, and each instruction's byte has a form. -/
theorem opCodesAndDefinedBytesCorrespond : Obligations.OpCodesAndDefinedBytesCorrespond := by
  refine ⟨opcodeByte_eq_iff, formOf_opcodeByte, fun _ _ => opcodeByte_sample, ?_⟩
  rintro b hb i rfl
  obtain ⟨f, hf, -⟩ := formOf_opcodeByte i
  exact nomatch hb.symm.trans hf

/-! ## The catalog and the sizes (R90, R91, R98, R162) -/

theorem catalogEntry (i : Instr) : Laws.CatalogEntry.Statement i := by
  cases i <;> exact ⟨rfl, rfl, rfl⟩

/-- A well-formed OpCode is that of the instruction its byte stands for. -/
theorem exists_instr_of_wf {op : OpCode} (h : op.wf = true) : ∃ i : Instr, i.opCode = op := by
  have hmode : op.mode ∈ op.mnemonic.modes := List.contains_iff_mem.mp h
  have hop : some op ∈ op.mnemonic.bytes.map opCodeFor := by
    rw [map_opCodeFor_bytes]
    exact List.mem_map_of_mem hmode
  obtain ⟨b, -, hb⟩ := List.mem_map.mp hop
  obtain ⟨f, -, hf⟩ := Option.map_eq_some_iff.mp hb
  exact ⟨f.sample, hf⟩

theorem wf_iff_exists_instr (op : OpCode) : op.wf = true ↔ ∃ i : Instr, i.opCode = op := by
  refine ⟨exists_instr_of_wf, ?_⟩
  rintro ⟨i, rfl⟩
  obtain ⟨hwf, -, -⟩ := catalogEntry i
  exact hwf

theorem size_of_ne_brk {i : Instr} (h : i ≠ .brk) (k : BrkSize) : i.size k = i.mode.size := by
  cases i
  case brk => exact absurd rfl h
  all_goals rfl

theorem size_brk (k : BrkSize) : Instr.size k .brk = k.bytes := rfl

theorem Mode.size_bounds (m : Mode) : 1 ≤ m.size ∧ m.size ≤ 3 := by
  cases m <;> decide

theorem BrkSize.bytes_bounds (k : BrkSize) : 1 ≤ k.bytes ∧ k.bytes ≤ 3 := by
  cases k <;> decide

/-- Settles O6: BRK apart, the size of an instruction is its mode's and its encoding's. -/
theorem catalogIsTheInstructionsWithTheirSizes : Obligations.CatalogIsTheInstructionsWithTheirSizes := by
  refine ⟨wf_iff_exists_instr, fun i k hi => ?_, size_brk, fun i k => ?_⟩
  · obtain ⟨-, hlen, -⟩ := catalogEntry i
    have hsize := size_of_ne_brk hi k
    exact ⟨hsize, hlen.trans hsize.symm⟩
  · by_cases hi : i = .brk
    · rw [hi, size_brk]
      exact k.bytes_bounds
    · rw [size_of_ne_brk hi]
      exact i.mode.size_bounds

/-! ## The decode classes (R96, R99, R100) -/

theorem classOf_eq_undefined_iff (b : Byte) : classOf b = .undefined ↔ formOf b = none := by
  cases hf : formOf b with
  | none => simp [classOf, hf]
  | some f =>
    rw [classOf, hf]
    cases hc : f.sample.mnemonic.catalog <;> simp [hc]

/-- Filling a form reports no byte as undefined. -/
theorem Form.fill_ne_undefinedByte (f : Form) (bs : List Byte) (c : Byte) : f.fill bs ≠ .error (.undefinedByte c) := by
  unfold Form.fill
  split <;> nofun

/-- Decoding reports its first byte as undefined exactly where the table has no form. -/
theorem decode_eq_undefinedByte_iff (b : Byte) (bs : List Byte) :
    decode (b :: bs) = .error (.undefinedByte b) ↔ formOf b = none := by
  cases hf : formOf b with
  | none => simp [decode_of_undefined hf]
  | some f => simp [decode_of_defined hf, Form.fill_ne_undefinedByte]

/-- The 256 bytes in order. -/
def allBytes : List Byte := (List.range 256).map (BitVec.ofNat 8)

/-- The classes of the 256 bytes, counted, and the unlisted bytes listed, as R96 and R100 have them. One evaluation of the table
in the kernel serves the four parts. -/
theorem classOf_allBytes :
    allBytes.countP (classOf · == .core) = 116 ∧ allBytes.countP (classOf · == .unlisted) = 35 ∧
    allBytes.countP (classOf · == .undefined) = 105 ∧
    allBytes.filter (classOf · == .unlisted) =
      [0x06, 0x0A, 0x0E, 0x16, 0x1E, 0x20, 0x26, 0x2A, 0x2E, 0x36, 0x3E, 0x40, 0x46, 0x4A, 0x4E, 0x56, 0x5E, 0x60, 0x66, 0x6A,
        0x6E, 0x76, 0x7E, 0x88, 0xC6, 0xC8, 0xCA, 0xCE, 0xD6, 0xDE, 0xE6, 0xE8, 0xEE, 0xF6, 0xFE] := by
  decide +kernel

/-- Settles O4: the table evaluated at each byte, and the decoder's answer where it has no form. -/
theorem decodeClassesOfAllBytes : Obligations.DecodeClassesOfAllBytes := by
  obtain ⟨hcore, hunlisted, hundefined, hlist⟩ := classOf_allBytes
  exact ⟨hcore, hunlisted, hundefined, hlist, fun b o₀ o₁ =>
    (classOf_eq_undefined_iff b).trans (decode_eq_undefinedByte_iff b [o₀, o₁]).symm⟩

/-! ## Words written out by hand (R98, R104) -/

/-- Settles O5, by evaluation of the decoder. -/
theorem writtenOutWordsDecode : Obligations.WrittenOutWordsDecode := ⟨rfl, rfl, rfl, rfl, rfl, rfl, rfl, rfl⟩

end Sys2Proof
end

section
/-! PROOFS. What an instruction may do to RUN and FAULT (spec/40_engine.md R128, R139, spec/60_exceptions.md R402): it always
answers a next state, completed or with the fault of its address computation as the only change. -/

namespace Sys2Proof.Machine

/-! ## The faults of the address computations (R163, R164) -/

/-- The addressing mode of a memory operand (R151 to R159). -/
def MemOperand.mode : MemOperand → Mode
  | .zeroPage _ => .zeroPage
  | .zeroPageX _ => .zeroPageX
  | .zeroPageY _ => .zeroPageY
  | .absolute _ => .absolute
  | .absoluteX _ => .absoluteX
  | .absoluteY _ => .absoluteY
  | .indirect _ => .indirect
  | .indirectX _ => .indirectX
  | .indirectY _ => .indirectY

/-- The fault `f` can come from an address computation in mode `mode` on the state `s`: the mode is one of those that add past
the address space (R163), and the sum is outside it and not wrapped (R164). -/
def OverflowIn (mode : Mode) (s : State) (f : Fault) : Prop :=
  ∃ addr : Int, f = .outOfRange addr ∧ ¬ (0 ≤ addr ∧ addr ≤ 65535) ∧ s.params.addrOverflow = .fault ∧
    mode ∈ [.absoluteX, .absoluteY, .indirect, .indirectY, .relative]

/-- An `Addr16` that faults in one of those modes. -/
theorem overflowIn_of_addr16 {mode : Mode} (hm : mode ∈ [.absoluteX, .absoluteY, .indirect, .indirectY, .relative])
    {s : State} {v : Int} {f : Fault} (h : addr16 s.params.addrOverflow v = .error f) : OverflowIn mode s f := by
  obtain ⟨hok, -⟩ | ⟨herr, hout, hovf⟩ := addr16_cases (ovf := s.params.addrOverflow) (v := v)
  · exact nomatch hok.symm.trans h
  · exact ⟨v, Except.error.inj (h.symm.trans herr), hout, hovf, hm⟩

/-- The resolver faults only in `Addr16`, in the modes of R163. -/
theorem overflowIn_of_effectiveAddress {m : MemOperand} {s : State} {f : Fault} (h : effectiveAddress m s = .error f) :
    OverflowIn m.mode s f := by
  cases m with
  | absoluteX | absoluteY => exact overflowIn_of_addr16 (by simp [MemOperand.mode]) h
  | indirect ptr =>
    rw [effectiveAddress_indirect] at h
    cases hn : addr16 s.params.addrOverflow (ptr.toNat + 1) with
    | ok next => exact nomatch hn ▸ h
    | error e =>
      rw [hn] at h
      cases h
      exact overflowIn_of_addr16 (by simp [MemOperand.mode]) hn
  | indirectX zp =>
    rw [effectiveAddress_indirectX] at h
    cases h
  | indirectY zp =>
    rw [effectiveAddress_indirectY] at h
    exact overflowIn_of_addr16 (by simp [MemOperand.mode]) h
  | zeroPage | zeroPageX | zeroPageY | absolute => cases h

/-! ## What an operation answers -/

/-- The mode in which an operation computes an address; a branch computes its target relative to PC (R160). -/
def Operation.addressMode : Operation → Option Mode
  | .load _ (.memory m) | .store _ m | .adc (.memory m) | .sbc (.memory m) | .compare _ (.memory m)
  | .bitwise _ (.memory m) | .bit (.memory m) | .jump m | .modify _ (.memory m) => some m.mode
  | .branch _ _ _ => some .relative
  | _ => none

/-- RUN after an operation that found it at `r` (R128). -/
def Operation.runAfter : Operation → RunState → RunState
  | .brk, _ => .halted
  | _, r => r

/-- The operation's address computation can fault with `f` on the state `s`. -/
def Operation.AddressFault (op : Operation) (s : State) (f : Fault) : Prop :=
  ∃ mode, op.addressMode = some mode ∧ OverflowIn mode s f

/-- What the operation `op` can answer on `s`: it completes, with FAULT as it was, or raises a fault of its address computation
and changes nothing else (R139). -/
inductive Operation.Answers (op : Operation) (s : State) : Result → Prop where
  | completes (t : State) (hrun : t.run = op.runAfter s.run) (hfault : t.fault = s.fault) : op.Answers s (.next t)
  | faults (f : Fault) (hf : op.AddressFault s f) : op.Answers s (.next (s.raise f))

section
variable {op : Operation} {s : State}

/-- An access answers so, if its continuation leaves RUN and FAULT as the operation should and the access faults only where the
operation's address computation can. -/
theorem answers_of_attempt {α : Type} {r : Except Fault α} {k : α → State}
    (hr : ∀ f, r = .error f → op.AddressFault s f)
    (hrun : ∀ v, (k v).run = op.runAfter s.run) (hfault : ∀ v, (k v).fault = s.fault) : op.Answers s (attempt s r k) := by
  cases r with
  | ok v => exact .completes (k v) (hrun v) (hfault v)
  | error f => exact .faults f (hr f rfl)

/-- An operation that resolves a memory operand has the resolver's faults. -/
theorem addressFault_of_effectiveAddress {m : MemOperand} (hop : op.addressMode = some m.mode) (f : Fault)
    (h : effectiveAddress m s = .error f) : op.AddressFault s f :=
  ⟨m.mode, hop, overflowIn_of_effectiveAddress h⟩

/-- An operation that reads an operand has the resolver's faults, and none where the operand is immediate (R170). -/
theorem addressFault_of_readOperand {o : Operand} (hop : ∀ m, o = .memory m → op.addressMode = some m.mode) (f : Fault)
    (h : readOperand o s = .error f) : op.AddressFault s f := by
  cases o with
  | immediate v => cases h
  | memory m =>
    rw [readOperand_memory] at h
    cases hm : effectiveAddress m s with
    | ok w => exact nomatch hm ▸ h
    | error e =>
      rw [hm] at h
      cases h
      exact addressFault_of_effectiveAddress (hop m rfl) _ hm

end

/-- Every operation answers a next state, completed or faulted by its address computation. -/
theorem Operation.run_answers (op : Operation) (s : State) : op.Answers s (op.run s) := by
  cases op
  case load r o =>
    refine answers_of_attempt (addressFault_of_readOperand ?_) (fun v => ?_) (fun v => ?_)
    · rintro m rfl
      rfl
    · rw [run_setNZ, run_setReg]
      rfl
    · rw [fault_setNZ, fault_setReg]
  case adc o | sbc o | compare _ o | bitwise _ o | bit o =>
    refine answers_of_attempt (addressFault_of_readOperand ?_) (fun _ => rfl) (fun _ => rfl)
    rintro m rfl
    rfl
  case store r m =>
    rw [Operation.run, store_eq]
    exact answers_of_attempt (addressFault_of_effectiveAddress rfl) (fun _ => rfl) (fun _ => rfl)
  case jump m => exact answers_of_attempt (addressFault_of_effectiveAddress rfl) (fun _ => rfl) (fun _ => rfl)
  case branch f v rel =>
    rw [Operation.run, Machine.branch]
    split
    · exact answers_of_attempt (fun e he => ⟨.relative, rfl, overflowIn_of_addr16 (by decide) he⟩) (fun _ => rfl)
        (fun _ => rfl)
    · exact .completes s rfl rfl
  case modify f o =>
    cases o with
    | accumulator => exact .completes _ rfl rfl
    | memory m =>
      rw [Operation.run, readModifyWrite_memory]
      exact answers_of_attempt (addressFault_of_effectiveAddress rfl) (fun _ => rfl) (fun _ => rfl)
  case transfer source r | register f r => exact .completes _ (run_setReg s r _) (fault_setReg s r _)
  all_goals exact .completes _ rfl rfl

/-! ## What an instruction answers: O17 and O21 -/

/-- An instruction answers what its operation can. -/
theorem exec_answers (i : Instr) (s : State) : (operationOf i).Answers s (exec i s) :=
  exec_eq_run i s ▸ (operationOf i).run_answers s

/-- Every instruction answers a next state. -/
theorem exec_eq_next (i : Instr) (s : State) : ∃ t, exec i s = .next t := by
  generalize hr : exec i s = r
  obtain ⟨t, -, -⟩ | ⟨f, -⟩ := hr ▸ exec_answers i s
  · exact ⟨t, rfl⟩
  · exact ⟨s.raise f, rfl⟩

/-- BRK alone has the operation that halts. -/
theorem runAfter_operationOf (i : Instr) (r : RunState) :
    (operationOf i).runAfter r = if i = .brk then .halted else r := by
  cases i <;> rfl

/-- An operation that computes an address leaves RUN alone. -/
theorem Operation.runAfter_of_addressMode {op : Operation} {mode : Mode} (h : op.addressMode = some mode) (r : RunState) :
    op.runAfter r = r := by
  cases op
  case brk => cases h
  all_goals rfl

/-- Settles O17: a completed instruction leaves RUN as its operation says, and BRK computes no address that could fault. -/
theorem onlyBrkWritesRun : Obligations.OnlyBrkWritesRun := by
  intro i s t h
  rw [← runAfter_operationOf]
  obtain ⟨_, hrun, -⟩ | ⟨f, mode, hmode, -⟩ := h ▸ exec_answers i s
  · exact hrun
  · exact (Operation.runAfter_of_addressMode hmode s.run).symm

/-- The mode in which an instruction's operation computes an address is the instruction's. -/
theorem mode_of_addressMode {i : Instr} {mode : Mode} (h : (operationOf i).addressMode = some mode) : i.mode = mode := by
  cases i <;> cases h <;> rfl

/-- Settles O21: an instruction that changes FAULT has not completed, so its address computation has overflowed. -/
theorem faultsArePrecise : Obligations.FaultsArePrecise := by
  intro i s t h hne
  obtain ⟨_, -, hfault⟩ | ⟨_, mode, hmode, addr, rfl, hout, hovf, hmem⟩ := h ▸ exec_answers i s
  · exact absurd hfault hne
  · exact ⟨addr, rfl, hout, hovf, mode_of_addressMode hmode ▸ hmem⟩

end Sys2Proof.Machine
end

section
/-! PROOFS. The engine family (spec/40_engine.md): the step, the batch run and the host's actions between steps. -/

namespace Sys2Proof.Machine

/-! ## What the fetch gives (R122 to R125) -/

theorem fetch_of_decode {s : State} {i : Instr} {rest : List Byte} (h : decode s.fetchBytes = .ok (i, rest)) :
    s.fetch = { instr := i, size := i.size s.params.brkSize, events := [] } := by
  rw [State.fetch, h]

/-- An undefined byte is fetched as NOP, with its diagnostic (R125). -/
theorem fetch_of_undefined {s : State} (h : formOf s.opcodeAtPc = none) :
    s.fetch = { instr := .nop, size := 1, events := [.unknownEncoding s.opcodeAtPc s.pc] } := by
  have hdec : decode s.fetchBytes = .error (.undefinedByte s.opcodeAtPc) := decode_of_undefined h _
  rw [State.fetch, hdec]

/-- An instruction is read at its own opcode byte (R90). -/
theorem opcodeByte_of_decode {b : Byte} {bs rest : List Byte} {i : Instr} (h : decode (b :: bs) = .ok (i, rest)) :
    i.opcodeByte = b := by
  obtain ⟨-, -, hcons⟩ := catalogEntry i
  have henc := decodedBytesAreTheEncoding _ _ _ h
  rw [hcons] at henc
  exact (List.head_eq_of_cons_eq henc).symm

/-- An instruction's byte is unlisted exactly when its mnemonic is (R96, R100). -/
theorem classOf_opcodeByte_eq_unlisted_iff (i : Instr) :
    classOf i.opcodeByte = .unlisted ↔ i.mnemonic.catalog = .unlisted := by
  obtain ⟨f, hf, hop⟩ := formOf_opcodeByte i
  rw [classOf, hf, Instr.mnemonic, ← hop, ← Instr.mnemonic]
  cases hc : f.sample.mnemonic.catalog <;> simp [hc]

theorem refusesFetch_iff (s : State) :
    s.refusesFetch = true ↔ classOf s.opcodeAtPc = .unlisted ∧ s.params.unlisted = .refuse := by
  simp [State.refusesFetch]

/-! ## The step: O14, O24, O25 and O26 -/

/-- The step of an enabled state whose byte is refused (R126). -/
theorem step_of_refusesFetch {s : State} (hf : s.fault = none) (hr : s.refused = none) (h : s.refusesFetch = true) :
    step s = .next s.refuse := by
  simp [step, hf, hr, h]

/-- Settles O14: an instruction always answers a next state, and a step of an enabled state refuses or executes. -/
theorem enabledMachineAlwaysSteps : Obligations.EnabledMachineAlwaysSteps := by
  refine ⟨exec_eq_next, fun s hf hr => ?_⟩
  cases hn : s.refusesFetch
  · obtain ⟨u, hu⟩ := exec_eq_next s.fetch.instr (s.enter s.fetch)
    exact ⟨_, step_of_exec hf hr hn hu⟩
  · exact ⟨_, step_of_refusesFetch hf hr hn⟩

/-- The end of a step that did not fault. -/
theorem leave_of_none {s : State} (h : s.fault = none) (f : Fetched) :
    s.leave f =
      { s with out := { cycles := some (cycleCost s.params f.instr), events := s.out.events ++ [.instructionExecuted] } } := by
  rw [State.leave, h]

/-- Settles O24: the fetch gives the instruction decoded, which leaves the outputs and the parameters to the end of the step. -/
theorem stepRunsTheDecodedInstruction : Obligations.StepRunsTheDecodedInstruction := by
  intro s t i rest hf hr hlisted hdec hexec
  have hfetch : s.fetch = { instr := i, size := i.size s.params.brkSize, events := [] } := fetch_of_decode hdec
  have hbyte : i.opcodeByte = s.opcodeAtPc := opcodeByte_of_decode hdec
  have hn : s.refusesFetch = false := by
    rw [← Bool.not_eq_true, refusesFetch_iff, ← hbyte, classOf_opcodeByte_eq_unlisted_iff]
    exact fun h => hlisted h.symm
  have hexec' : exec s.fetch.instr (s.enter s.fetch) = .next t := by rw [hfetch]; exact hexec
  have hstep := step_of_exec hf hr hn hexec'
  have hkept := exec_kept hexec
  refine ⟨fun ht => ?_, fun ht => ?_⟩
  · rw [hstep, leave_of_none ht, hfetch, hkept.out, hkept.params]
    rfl
  · obtain ⟨f, ht⟩ := Option.ne_none_iff_exists'.mp ht
    rw [hstep, leave_of_fault t _ f ht]

/-- Settles O25: the NOP fetched for an undefined byte, which is not unlisted, leaves the state as the fetch left it. -/
theorem undefinedByteIsAOneByteNoop : Obligations.UndefinedByteIsAOneByteNoop := by
  intro s hf hr hb
  have hn : s.refusesFetch = false := by
    rw [← Bool.not_eq_true, refusesFetch_iff, (classOf_eq_undefined_iff s.opcodeAtPc).mpr hb]
    simp
  have hexec : exec s.fetch.instr (s.enter s.fetch) = .next (s.enter s.fetch) := by rw [fetch_of_undefined hb]; rfl
  rw [step_of_exec hf hr hn hexec, leave_of_none (s := s.enter s.fetch) hf, fetch_of_undefined hb]
  rfl

/-- The cost of an instruction is that of its opcode byte, which tells its OpCode (R94, R132). -/
theorem cycleCost_congr (p : Params) {i j : Instr} (h : i.opcodeByte = j.opcodeByte) : cycleCost p i = cycleCost p j := by
  rw [cycleCost, cycleCost, h, (opcodeByte_eq_iff i j).mp h]

/-- Settles O26: a refusal and a fault leave the outputs without a cost, a completed instruction those of the step's end. -/
theorem stepReturnsTheDeclaredCost : Obligations.StepReturnsTheDeclaredCost := by
  refine ⟨fun s t h => ?_, fun p _ _ => cycleCost_congr p⟩
  obtain ⟨-, hr, ⟨-, rfl⟩ | ⟨-, u, hu, rfl⟩⟩ := step_next_cases h
  · exact ⟨fun _ hmark => (nomatch hmark), fun _ => rfl⟩
  · have hkept := exec_kept hu
    rw [fault_leave, refused_leave, hkept.refused, refused_enter, hr]
    refine ⟨fun hfault _ => ?_, fun hmark => ?_⟩
    · rw [out_leave_of_none u _ hfault, hkept.params, params_enter]
    · obtain ⟨f, hf⟩ := Option.ne_none_iff_exists'.mp (hmark.resolve_right (absurd rfl))
      rw [leave_of_fault u _ f hf, hkept.out, out_enter]

/-! ## The batch run (R135 to R138): O58 -/

theorem enabled_iff (s : State) : s.enabled = true ↔ s.fault = none ∧ s.refused = none := by
  simp [State.enabled]

theorem runs_iff (s : State) : s.runs = true ↔ s.run = .running ∧ s.fault = none ∧ s.refused = none := by
  simp [State.runs, enabled_iff]

theorem ended_iff (s : State) : s.ended = true ↔ s.run = .halted ∧ s.fault = none ∧ s.refused = none := by
  simp [State.ended, enabled_iff]

/-- A state the run does not step is halted, faulted or refused. -/
theorem runs_eq_false_iff (s : State) : s.runs = false ↔ s.run = .halted ∨ s.fault ≠ none ∨ s.refused ≠ none := by
  rw [← Bool.not_eq_true, runs_iff, not_and_or, not_and_or]
  cases s.run <;> simp

/-- A state the run does not step, with neither mark set, is an end of run. -/
theorem ended_of_not_runs {s : State} (h : s.runs = false) (hf : s.fault = none) (hr : s.refused = none) :
    s.ended = true := by
  rw [runs_eq_false_iff, hf, hr] at h
  exact (ended_iff s).mpr ⟨by simpa using h, hf, hr⟩

theorem runs_of_step {s t : State} (hrun : s.run = .running) (h : step s = .next t) : s.runs = true := by
  obtain ⟨hf, hr, -⟩ := step_next_cases h
  exact (runs_iff s).mpr ⟨hrun, hf, hr⟩

/-- A run returns a state it would not step as it is. -/
theorem batchRun_of_not_runs {s : State} (h : s.runs = false) (n : Nat) : batchRun n s = some s := by
  cases n <;> exact runTurn_of_not_runs h _

/-- A turn returns only states the run would not step, if its continuation does. -/
theorem not_runs_of_runTurn {next : State → Option State} (hnext : ∀ t u, next t = some u → u.runs = false) {s u : State}
    (h : s.runTurn next = some u) : u.runs = false := by
  obtain ⟨hs, rfl⟩ | ⟨-, t, -, hu⟩ := runTurn_cases h
  · exact hs
  · exact hnext t u hu

/-- A run returns only states it would not step. -/
theorem not_runs_of_batchRun {n : Nat} {s u : State} (h : batchRun n s = some u) : u.runs = false := by
  induction n generalizing s u with
  | zero => exact not_runs_of_runTurn (fun _ _ hu => by cases hu) h
  | succ n ih => exact not_runs_of_runTurn (fun _ _ => ih) h

/-- So does a run during which the host acts. -/
theorem not_runs_of_hostedRun {plan : List (List HostAction)} {n : Nat} {s u : State} (h : hostedRun plan n s = some u) :
    u.runs = false := by
  induction plan generalizing s u with
  | nil => exact not_runs_of_batchRun h
  | cons hs plan ih =>
    obtain ⟨t, -, hu⟩ := Option.bind_eq_some_iff.mp h
    exact not_runs_of_runTurn (fun _ _ => ih) hu

/-- Where the host's actions lead to a state the run does not step, the run ends there. -/
theorem hostedRun_of_not_runs {hs : List HostAction} {s t : State} (ht : hostActs hs s = some t) (h : t.runs = false)
    (plan : List (List HostAction)) (n : Nat) : hostedRun (hs :: plan) n s = some t := by
  rw [hostedRun, ht]
  exact runTurn_of_not_runs h _

/-- Where the host does nothing, the run makes the step and goes on. -/
theorem hostedRun_nil_cons {s t : State} (hrun : s.run = .running) (h : step s = .next t)
    (plan : List (List HostAction)) (n : Nat) : hostedRun ([] :: plan) n s = hostedRun plan n t :=
  runTurn_of_step (runs_of_step hrun h) h _

/-- A schedule with nothing to do only lengthens the run. -/
theorem hostedRun_replicate_nil (k n : Nat) (s : State) : hostedRun (List.replicate k []) n s = batchRun (k + n) s := by
  induction k generalizing s with
  | zero => rw [Nat.zero_add]; rfl
  | succ k ih =>
    rw [Nat.add_right_comm]
    exact congrArg s.runTurn (funext ih)

theorem runs_hostStop (s : State) : (hostStop s).runs = false := (runs_eq_false_iff _).mpr (.inl rfl)

/-- Settles O58: a turn steps exactly the states that run, so a run ends in one that does not. -/
theorem batchRunStepsWhileRunning : Obligations.BatchRunStepsWhileRunning := by
  refine ⟨?halted, ?step, ?stops, ?ends, ?noPlan, hostedRun_replicate_nil, ?hosted, ?hostedStops, ?hostedEnds⟩
  case halted => exact fun n s h => batchRun_of_not_runs ((runs_eq_false_iff s).mpr (.inl h)) n
  case step => exact fun n s t hrun h => runTurn_of_step (runs_of_step hrun h) h _
  case stops => exact fun n s t h => (runs_eq_false_iff t).mp (not_runs_of_batchRun h)
  case ends => exact fun n s t h => ended_of_not_runs (not_runs_of_batchRun h)
  case noPlan => exact fun n s => rfl
  case hosted =>
    refine fun plan n s t hrun h => ⟨hostedRun_nil_cons hrun h plan n, ?_⟩
    rw [hostedRun_nil_cons hrun h]
    exact hostedRun_of_not_runs rfl (runs_hostStop t) plan n
  case hostedStops => exact fun plan n s t h => (runs_eq_false_iff t).mp (not_runs_of_hostedRun h)
  case hostedEnds => exact fun plan n s t h => ended_of_not_runs (not_runs_of_hostedRun h)

/-! ## The host's actions (R126, R129, R131, R136): O12, O16 and O59 -/

/-- Settles O12, action by action. -/
theorem hostActionsKeepTheInvariant : Obligations.HostActionsKeepTheInvariant := fun _ _ _ hs h =>
  (hostAct_keeps_inv_params hs h).1

/-- No step is enabled in a refused state (R126). -/
theorem step_of_refused {s : State} {b : Byte} (hf : s.fault = none) (hr : s.refused = some b) :
    step s = .refused (.unlistedByte b) := by
  rw [step, hf, hr]

theorem runs_of_refused {s : State} {b : Byte} (hr : s.refused = some b) : s.runs = false :=
  (runs_eq_false_iff s).mpr (.inr (.inr (by simp [hr])))

theorem ended_of_refused {s : State} {b : Byte} (hr : s.refused = some b) : s.ended = false := by
  simp [State.ended, State.enabled, hr]

/-- Settles O16: the refused step sets REFUSED, which no action of the host but a reset touches. -/
theorem unlistedByteIsRefused : Obligations.UnlistedByteIsRefused := by
  intro s hf hr hparam hclass
  have hstep := step_of_refusesFetch hf hr ((refusesFetch_iff s).mpr ⟨hclass, hparam⟩)
  have hstop : s.refuse.refused = some (s.mem.read s.pc.toNat) := rfl
  refine ⟨s.refuse, hstep, rfl, step_of_refused hf hstop, batchRun_of_not_runs (runs_of_refused hstop),
    ended_of_refused hstop, fun hs u hu hreset => ?_, fun _ _ _ => rfl⟩
  obtain ⟨hfault, hrefused⟩ := hostActs_marks hu hreset
  have hstop' := hrefused.trans hstop
  have hruns := runs_of_refused hstop'
  exact ⟨step_of_refused (hfault.trans hf) hstop', batchRun_of_not_runs hruns, hostedRun_of_not_runs hu hruns,
    ended_of_refused hstop'⟩

/-- Settles O59: a step that answers a next state starts with neither mark set, and `Start` leaves both as they are. -/
theorem startAndStopWriteRunOnly : Obligations.StartAndStopWriteRunOnly := by
  refine fun s => ⟨rfl, rfl, fun hmark => ⟨fun t ht => ?_, ?_⟩, fun hrun => ?_⟩
  · obtain ⟨hf, hr, -⟩ := step_next_cases ht
    exact hmark.elim (absurd hf) (absurd hr)
  · exact batchRun_of_not_runs ((runs_eq_false_iff (hostStart s)).mpr (.inr hmark))
  · rw [hostStart, ← hrun]

end Sys2Proof.Machine
end

section
/-! PROOFS. The addressing family (spec/41_addressing.md): the 16-bit overflow rule, the effective address of every mode, and the
operand at it. -/

namespace Sys2Proof.Machine

/-! ## The 16-bit overflow rule (R164) -/

/-- The word of an integer is the integer modulo 65536. -/
theorem toNat_ofInt_word (v : Int) : ((BitVec.ofInt 16 v).toNat : Int) = v % 65536 := by
  rw [BitVec.toNat_ofInt, Int.toNat_of_nonneg (Int.emod_nonneg v (by decide))]
  rfl

theorem addr16_of_inRange (ovf : AddrOverflow) {v : Int} (h : 0 ≤ v ∧ v ≤ 65535) :
    addr16 ovf v = .ok (BitVec.ofInt 16 v) := by
  obtain ⟨hok, -⟩ | ⟨-, hout, -⟩ := addr16_cases (ovf := ovf) (v := v)
  · exact hok
  · exact absurd h hout

theorem addr16_wrap16 (v : Int) : addr16 .wrap16 v = .ok (BitVec.ofInt 16 v) := by
  obtain ⟨hok, -⟩ | ⟨-, -, hovf⟩ := addr16_cases (ovf := .wrap16) (v := v)
  · exact hok
  · cases hovf

theorem addr16_fault_of_not_inRange {v : Int} (h : ¬ (0 ≤ v ∧ v ≤ 65535)) : addr16 .fault v = .error (.outOfRange v) := by
  obtain ⟨-, hin | hovf⟩ | ⟨herr, -⟩ := addr16_cases (ovf := .fault) (v := v)
  · exact absurd hin h
  · cases hovf
  · exact herr

/-- Settles O30: in range the word of the sum is the sum itself, since the modulus changes nothing. -/
theorem addr16Rule : Obligations.Addr16Rule := by
  refine fun ovf v => ⟨fun h => ⟨_, addr16_of_inRange ovf h, ?_⟩, fun _ => ⟨_, addr16_wrap16 v, toNat_ofInt_word v⟩,
    addr16_fault_of_not_inRange⟩
  rw [toNat_ofInt_word]
  omega

/-! ## The modes without a pointer (R151 to R154) -/

/-- Settles O31: a sum of bytes is taken modulo 256 and its extension to a word keeps the number. -/
theorem directModesResolve : Obligations.DirectModesResolve := by
  refine fun s zp abs => ⟨⟨_, rfl, toNat_zext16 zp⟩, ⟨_, rfl, ?_⟩, ⟨_, rfl, ?_⟩, rfl, rfl, rfl⟩
  · rw [toNat_zext16, BitVec.toNat_add]
  · rw [toNat_zext16, BitVec.toNat_add]

/-! ## The modes with a pointer (R156 to R159) -/

/-- A little-endian word as a number, low byte first (R65). -/
theorem toNat_wordOf_low_first (lo hi : Byte) : (wordOf lo hi).toNat = lo.toNat + 256 * hi.toNat := by
  rw [toNat_wordOf, Nat.mul_comm, Nat.add_comm]

/-- INDIRECT answers the word whose high byte lies at the address `Addr16` gives for the pointer's successor. -/
theorem effectiveAddress_indirect_of_ok {s : State} {ptr next : Word}
    (h : addr16 s.params.addrOverflow (ptr.toNat + 1) = .ok next) :
    effectiveAddress (.indirect ptr) s = .ok (wordOf (s.byteAt ptr) (s.byteAt next)) := by
  rw [effectiveAddress_indirect, h, Except.map]

/-- INDIRECT has the fault of `Addr16` at the pointer's successor. -/
theorem effectiveAddress_indirect_of_error {s : State} {ptr : Word} {f : Fault}
    (h : addr16 s.params.addrOverflow (ptr.toNat + 1) = .error f) :
    effectiveAddress (.indirect ptr) s = .error f := by
  rw [effectiveAddress_indirect, h, Except.map]

/-- Settles O32: the pointer's successor is itself below 0xFFFF, and past it is 0 or out of range. -/
theorem indirectReadsItsPointer : Obligations.IndirectReadsItsPointer := by
  refine fun s abs => ⟨fun hlt => ?_, fun habs hwrap => ?_, fun habs hfault => ?_⟩
  · have hsum : 0 ≤ (abs.toNat + 1 : Int) ∧ (abs.toNat + 1 : Int) ≤ 65535 := by omega
    have hnext : (BitVec.ofInt 16 (abs.toNat + 1)).toNat = abs.toNat + 1 := by
      have hmod := toNat_ofInt_word (abs.toNat + 1)
      omega
    refine ⟨_, effectiveAddress_indirect_of_ok (addr16_of_inRange _ hsum), ?_⟩
    rw [toNat_wordOf_low_first, State.byteAt, State.byteAt, hnext]
  · have hnext : addr16 s.params.addrOverflow (abs.toNat + 1) = .ok 0 := by rw [hwrap, habs]; rfl
    refine ⟨_, effectiveAddress_indirect_of_ok hnext, ?_⟩
    rw [toNat_wordOf_low_first, State.byteAt, State.byteAt, habs]
    rfl
  · apply effectiveAddress_indirect_of_error
    rw [hfault, habs]
    rfl

/-- Settles O33: only the sum of bytes is taken modulo 256, not the address after it. -/
theorem indirectXReadsItsPointer : Obligations.IndirectXReadsItsPointer := by
  refine fun s zp => ⟨_, effectiveAddress_indirectX s zp, ?_⟩
  rw [toNat_wordOf_low_first, BitVec.toNat_add]

/-- Settles O34, with the pointer read as a number. -/
theorem indirectYAddsYToThePointer : Obligations.IndirectYAddsYToThePointer := by
  intro s zp
  rw [effectiveAddress_indirectY, toNat_wordOf_low_first, ← Int.natCast_add]

/-! ## The operand (R155, R170) -/

/-- Settles O35: a memory operand is the effective address mapped to the byte there. -/
theorem operandIsImmediateOrTheByteAtEa : Obligations.OperandIsImmediateOrTheByteAtEa := by
  refine ⟨fun _ _ => rfl, fun s m w h => ?_, fun s m f h => ?_⟩
  · rw [readOperand_memory, h, Except.map, State.byteAt]
  · rw [readOperand_memory, h, Except.map]

end Sys2Proof.Machine
end

section
/-! PROOFS. The load and store family (spec/42_load_store.md): what `SetNZ` says of Z and N, and the two whole effects of the
family, a register written with Z and N and one byte of memory written, each with all that it leaves alone. -/

namespace Sys2Proof.Machine

/-! ## The effects -/

/-- A P that `SetNZ(v)` made, from whatever P, has Z and N of `v` (R15). -/
theorem zeroNegative_of_statusNZ {t : State} {p v : Byte} (h : t.p = statusNZ p v) : ZeroNegative t v where
  zero := by rw [flag_eq, h, getFlag_statusNZ]; rfl
  negative := by rw [flag_eq, h, getFlag_statusNZ]; exact BitVec.msb_eq_getLsbD_last v

/-- A register written, then `SetNZ`: every other register, every other flag and all of memory are left alone. -/
theorem unchanged_setNZ_setReg (s : State) (r : Reg) (v w : Byte) :
    Unchanged s ((s.setReg r v).setNZ w) [r] [.z, .n] [] where
  regs q hq := by rw [reg_setNZ, reg_setReg_other s r q v (List.ne_of_not_mem_cons hq)]
  flags g hg := by rw [flag_eq, p_setNZ, p_setReg, getFlag_statusNZ_other s.p w hg, flag_eq]
  cells addr _ := by rw [mem_setNZ, mem_setReg]
  run := run_setReg s r v
  fault := fault_setReg s r v
  refused := refused_setReg s r v
  out := out_setReg s r v
  params := params_setReg s r v

/-- The cell written reads as the byte written (R61). -/
theorem Memory.read_write_same {m : Memory} (h : m.wf) (a : Nat) (v : Byte) : (m.write a v).read a = v :=
  (Memory.read_write h a a v).trans (if_pos rfl)

/-- One byte written to a canonical memory: every other cell, every register and every flag are left alone (R61). -/
theorem unchanged_write {s : State} (hwf : s.mem.wf) (a : Nat) (v : Byte) :
    Unchanged s { s with mem := s.mem.write a v } [] [] [a] where
  regs q _ := reg_congr rfl rfl rfl rfl q
  flags _ _ := rfl
  cells addr haddr := (Memory.read_write hwf a addr v).trans (if_neg (List.ne_of_not_mem_cons haddr))
  run := rfl
  fault := rfl
  refused := rfl
  out := rfl
  params := rfl

/-! ## The loads (R180 to R183) -/

/-- The table of loads gives each load the operands of its operation. -/
theorem operationOf_of_loadForm {i : Instr} {r : Reg} {o : Operand} (h : loadForm i = some (r, o)) :
    operationOf i = .load r o := by
  cases i <;> cases h <;> rfl

/-- A load whose operand can be read writes it to the register, then Z and N from it. -/
theorem exec_of_loadForm {i : Instr} {r : Reg} {o : Operand} {s : State} {m : Byte} (h : loadForm i = some (r, o))
    (hm : readOperand o s = .ok m) : exec i s = .next ((s.setReg r m).setNZ m) := by
  rw [exec_eq_run, operationOf_of_loadForm h, Operation.run, load, hm, attempt_ok]

/-- Settles O37: a load is one register write and `SetNZ`. -/
theorem loadsSetTheirRegister : Obligations.LoadsSetTheirRegister := by
  intro i r o s m hi hm
  refine ⟨_, exec_of_loadForm hi hm, ?_, zeroNegative_of_statusNZ (p_setNZ (s.setReg r m) m), ?_,
    unchanged_setNZ_setReg s r m m⟩
  · rw [reg_setNZ, reg_setReg_same]
  · rw [pc_setNZ, pc_setReg]

/-! ## The stores (R184 to R187) -/

/-- Settles O38: a store is one write to memory (`exec_of_storeForm`), which reads back as the register. -/
theorem storesWriteOneByte : Obligations.StoresWriteOneByte := by
  intro i r m s w hwf hi hw
  exact ⟨_, exec_of_storeForm hi hw, Memory.read_write_same hwf w.toNat (s.reg r), rfl,
    unchanged_write hwf w.toNat (s.reg r)⟩

end Sys2Proof.Machine
end

section
/-! PROOFS. The ALU family (spec/43_alu.md): every operation of the family reads its operand, then writes P and at most A. The
numbers of the sum, the difference and the signed overflow come first, then the meaning of each form as one state update. -/

namespace Sys2Proof.Machine

/-! ## Numbers (R200, R201) -/

theorem signedOverflow_eq (v : Int) : signedOverflow v = decide (v < -128 ∨ 127 < v) :=
  (Bool.decide_or _ _).symm

/-- No signed overflow: the integer is the signed reading of a byte. -/
theorem not_signedOverflow_eq (v : Int) : (!signedOverflow v) = decide (-128 ≤ v ∧ v ≤ 127) := by
  rw [signedOverflow_eq, ← decide_not, decide_eq_decide]
  omega

/-- The sum of ADC as a number (R210). -/
theorem toNat_adcValue (p a m : Byte) : (adcValue p a m).toNat = (a.toNat + m.toNat + carryIn p) % 256 :=
  BitVec.toNat_ofNat ..

/-- The difference of SBC as a number (R212). -/
theorem toNat_sbcValue (p a m : Byte) : ((sbcValue p a m).toNat : Int) = (a.toNat - m.toNat - borrowIn p) % 256 := by
  rw [sbcValue, BitVec.toNat_ofInt, Int.toNat_of_nonneg (Int.emod_nonneg _ (by decide))]
  rfl

theorem adcOverflow_eq (p a m : Byte) : adcOverflow p a m = signedOverflow (a.toInt + m.toInt + carryIn p) := by
  rw [adcOverflow, s8_eq_toInt, s8_eq_toInt]

theorem sbcOverflow_eq (p a m : Byte) : sbcOverflow p a m = signedOverflow (a.toInt - m.toInt - borrowIn p) := by
  rw [sbcOverflow, s8_eq_toInt, s8_eq_toInt]

/-- The difference of two bytes is zero exactly when they are equal (R214). -/
theorem sub_beq_zero (r m : Byte) : (r - m == 0) = decide (r = m) :=
  decide_eq_decide.mpr sub_eq_zero

/-- Bit 7 of a difference of bytes, read from the number modulo 256 (R214). -/
theorem msb_sub_eq_decide (r m : Byte) : (r - m).msb = decide (128 ≤ (r.toNat + 256 - m.toNat) % 256) := by
  rw [BitVec.msb_eq_decide, BitVec.toNat_sub, decide_eq_decide]
  omega

/-! ## What the operations leave alone -/

/-- An operation that completes and writes no memory leaves alone all that is outside its registers and flags. -/
theorem Operation.unchanged_of_run {op : Operation} {s t : State} {flags : List Flag} (h : op.run s = .next t)
    (hflags : ∀ ⦃g⦄, op.WritesFlag g → g ∈ flags) (hmem : t.mem = s.mem) (hrun : t.run = s.run)
    (hfault : t.fault = s.fault) : Unchanged s t op.regs flags [] :=
  have hframe := Operation.run_frame h
  have hkept := Operation.run_kept h
  { regs := hframe.regs
    flags := fun g hg => hframe.flags g fun hw => hg (hflags hw)
    cells := fun addr _ => congrArg (Memory.read · addr) hmem
    run := hrun
    fault := hfault
    refused := hkept.refused
    out := hkept.out
    params := hkept.params }

/-- An instruction whose operation goes on from an access that answers `v` ends in the state the operation gives for `v`. -/
theorem exec_of_attempt {i : Instr} {op : Operation} {s : State} {α : Type} {r : Except Fault α} {v : α} {k : α → State}
    (hi : operationOf i = op) (hrun : op.run s = attempt s r k) (hr : r = .ok v) :
    exec i s = .next (k v) ∧ op.run s = .next (k v) := by
  have h : op.run s = .next (k v) := by rw [hrun, hr, attempt_ok]
  exact ⟨by rw [exec_eq_run, hi, h], h⟩

/-! ## The tables name the operations -/

theorem operationOf_of_adcForm {i : Instr} {o : Operand} (h : adcForm i = some o) : operationOf i = .adc o := by
  cases i <;> cases h <;> rfl

theorem operationOf_of_sbcForm {i : Instr} {o : Operand} (h : sbcForm i = some o) : operationOf i = .sbc o := by
  cases i <;> cases h <;> rfl

theorem operationOf_of_compareForm {i : Instr} {r : Reg} {o : Operand} (h : compareForm i = some (r, o)) :
    operationOf i = .compare r o := by
  cases i <;> cases h <;> rfl

theorem operationOf_of_bitwiseForm {i : Instr} {op : Byte → Byte → Byte} {o : Operand}
    (h : bitwiseForm i = some (op, o)) : operationOf i = .bitwise op o := by
  cases i <;> cases h <;> rfl

theorem operationOf_of_bitForm {i : Instr} {o : Operand} (h : bitForm i = some o) : operationOf i = .bit o := by
  cases i <;> cases h <;> rfl

/-! ## Add and subtract (R210, R212) -/

/-- Settles O39: V and C are both the signed overflow of the sum; P enters by its carry alone. -/
theorem adcAddsWithCarry : Obligations.AdcAddsWithCarry := by
  intro i o s m hi hm
  obtain ⟨hexec, hrun⟩ := exec_of_attempt (operationOf_of_adcForm hi) rfl hm
  have hovf := (adcOverflow_eq s.p s.a m).trans (signedOverflow_eq _)
  exact ⟨_, hexec, toNat_adcValue s.p s.a m, (getFlag_adcStatus s.p s.a m .v).trans hovf,
    (getFlag_adcStatus s.p s.a m .c).trans hovf, zeroNegative_of_statusNZ rfl, rfl,
    Operation.unchanged_of_run hrun (by decide : [Flag.c, .z, .v, .n] ⊆ [.v, .c, .z, .n]) rfl rfl rfl⟩

/-- Settles O40: V is the signed overflow of the difference and C its complement (C8); P enters by its carry alone. -/
theorem sbcSubtractsWithBorrow : Obligations.SbcSubtractsWithBorrow := by
  intro i o s m hi hm
  obtain ⟨hexec, hrun⟩ := exec_of_attempt (operationOf_of_sbcForm hi) rfl hm
  have hovf := sbcOverflow_eq s.p s.a m
  have hv := hovf.trans (signedOverflow_eq _)
  have hc := (congrArg not hovf).trans (not_signedOverflow_eq _)
  exact ⟨_, hexec, toNat_sbcValue s.p s.a m, (getFlag_sbcStatus s.p s.a m .v).trans hv,
    (getFlag_sbcStatus s.p s.a m .c).trans hc, zeroNegative_of_statusNZ rfl, rfl,
    Operation.unchanged_of_run hrun (by decide : [Flag.c, .z, .v, .n] ⊆ [.v, .c, .z, .n]) rfl rfl rfl⟩

/-! ## Compares (R214) -/

/-- Settles O41: Z and N come from the difference of the bytes modulo 256, C from their unsigned order. -/
theorem comparesSetCarryZeroNegative : Obligations.ComparesSetCarryZeroNegative := by
  intro i r o s m hi hm
  obtain ⟨hexec, hrun⟩ := exec_of_attempt (operationOf_of_compareForm hi) rfl hm
  exact ⟨_, hexec, getFlag_compareStatus s.p (s.reg r) m .c,
    (getFlag_compareStatus s.p (s.reg r) m .z).trans (sub_beq_zero (s.reg r) m),
    (getFlag_compareStatus s.p (s.reg r) m .n).trans (msb_sub_eq_decide (s.reg r) m), rfl,
    Operation.unchanged_of_run hrun (fun _ hg => hg) rfl rfl rfl⟩

/-! ## Bitwise operations (R219) -/

/-- Settles O42: the operator of the table is the operator the instruction applies. -/
theorem bitwiseOperationsOnTheAccumulator : Obligations.BitwiseOperationsOnTheAccumulator := by
  intro i op o s m hi hm
  obtain ⟨hexec, hrun⟩ := exec_of_attempt (operationOf_of_bitwiseForm hi) rfl hm
  exact ⟨_, hexec, rfl, zeroNegative_of_statusNZ rfl, rfl, Operation.unchanged_of_run hrun (fun _ hg => hg) rfl rfl rfl⟩

/-! ## BIT (R225) -/

/-- Settles O43: Z is read from A AND M, N and V from M itself. -/
theorem bitTestsTheOperand : Obligations.BitTestsTheOperand := by
  intro i o s m hi hm
  obtain ⟨hexec, hrun⟩ := exec_of_attempt (operationOf_of_bitForm hi) rfl hm
  exact ⟨_, hexec, getFlag_bitStatus s.p s.a m .z, getFlag_bitStatus s.p s.a m .n, getFlag_bitStatus s.p s.a m .v, rfl,
    Operation.unchanged_of_run hrun (by decide : [Flag.z, .v, .n] ⊆ [.z, .n, .v]) rfl rfl rfl⟩

end Sys2Proof.Machine
end

section
/-! PROOFS. The control family (spec/44_control.md): a jump as one write of PC, and a branch as nothing or as one write of PC with
the sum `Addr16` gives. -/

namespace Sys2Proof.Machine

/-! ## The jumps (R260) -/

/-- A jump whose operand resolves goes there and changes nothing else. -/
theorem jump_of_target {m : MemOperand} {s : State} {w : Word} (hw : effectiveAddress m s = .ok w) :
    jump m s = .next { s with pc := w } := by
  rw [jump, hw, attempt_ok]

/-- Settles O44: both forms are `jump`, and an ABSOLUTE operand resolves to its word. -/
theorem jumpsGoToTheirTarget : Obligations.JumpsGoToTheirTarget :=
  ⟨fun target s => (exec_eq_run (.jmpAbs target) s).trans (jump_of_target rfl),
    fun ptr _ s hw => (exec_eq_run (.jmpInd ptr) s).trans (jump_of_target hw)⟩

/-! ## The branches (R160, R261, R262) -/

/-- The table of branches gives each branch the test and the offset of its operation. -/
theorem operationOf_of_branchForm {i : Instr} {f : Flag} {v : Bool} {rel : Byte} (h : branchForm i = some (f, v, rel)) :
    operationOf i = .branch f v rel := by
  cases i <;> cases h <;> rfl

/-- A branch target is PC past the instruction plus the signed offset, through `Addr16` (R160). -/
theorem branchTarget_eq (rel : Byte) (s : State) :
    branchTarget rel s = addr16 s.params.addrOverflow (s.pc.toNat + rel.toInt) := by
  rw [branchTarget, s8_eq_toInt]

section
variable {i : Instr} {f : Flag} {v : Bool} {rel : Byte} {s : State}

/-- A branch whose flag has not the value tested does nothing. -/
theorem exec_of_branchForm_of_flag_ne (hi : branchForm i = some (f, v, rel)) (hf : s.flag f ≠ v) : exec i s = .next s := by
  rw [exec_eq_run, operationOf_of_branchForm hi]
  exact if_neg hf

/-- A branch whose flag has the value tested writes PC with its target, or takes the target's fault. -/
theorem exec_of_branchForm_of_flag_eq (hi : branchForm i = some (f, v, rel)) (hf : s.flag f = v) :
    exec i s = attempt s (addr16 s.params.addrOverflow (s.pc.toNat + rel.toInt)) fun target => { s with pc := target } := by
  rw [exec_eq_run, operationOf_of_branchForm hi, ← branchTarget_eq]
  exact if_pos hf

/-- A taken branch whose target resolves goes there and changes nothing else. -/
theorem exec_of_branchForm_of_target {w : Word} (hi : branchForm i = some (f, v, rel)) (hf : s.flag f = v)
    (hw : addr16 s.params.addrOverflow (s.pc.toNat + rel.toInt) = .ok w) : exec i s = .next { s with pc := w } := by
  rw [exec_of_branchForm_of_flag_eq hi hf, hw, attempt_ok]

end

/-- Settles O45: the three cases of a taken branch are those of `Addr16` (`addr16Rule`). -/
theorem branchesGoToTheirTarget : Obligations.BranchesGoToTheirTarget := by
  intro i f v rel s hi sum
  obtain ⟨hin, hwrap, hfault⟩ := addr16Rule s.params.addrOverflow sum
  refine ⟨exec_of_branchForm_of_flag_ne hi, fun hf hrange => ?_, fun hf hrange hovf => ?_, fun hf hrange hovf => ?_⟩
  · obtain ⟨w, hw, hnum⟩ := hin hrange
    exact ⟨w, hnum, exec_of_branchForm_of_target hi hf hw⟩
  · obtain ⟨w, hw, hnum⟩ := hwrap hrange
    exact ⟨w, hnum, exec_of_branchForm_of_target hi hf (hovf ▸ hw)⟩
  · rw [exec_of_branchForm_of_flag_eq hi hf, hovf, hfault hrange, attempt_error, State.raise]

end Sys2Proof.Machine
end

section
/-! PROOFS. The transfer, stack and flag family (spec/45_transfer_stack_flags.md): the stack as a store (a push writes one cell and
SP, a pull reads the cell above SP, and a pull takes back what a push put), then each instruction as one state update. -/

namespace Sys2Proof.Machine

/-! ## The transfers (R280) -/

/-- The table of transfers gives each transfer the registers of its operation. -/
theorem operationOf_of_transferForm {i : Instr} {source target : Reg} (h : transferForm i = some (source, target)) :
    operationOf i = .transfer source target := by
  cases i <;> cases h <;> rfl

/-- A transfer writes the source to the target, then Z and N from it. -/
theorem exec_of_transferForm {i : Instr} {source target : Reg} (h : transferForm i = some (source, target)) (s : State) :
    exec i s = .next ((s.setReg target (s.reg source)).setNZ (s.reg source)) := by
  rw [exec_eq_run, operationOf_of_transferForm h, Operation.run, transfer]

/-- Settles O46: a transfer, TXS included, is one register write and `SetNZ`. -/
theorem transfersCopyAndSetZN : Obligations.TransfersCopyAndSetZN := by
  intro i source target s hi
  refine ⟨_, exec_of_transferForm hi s, ?_, zeroNegative_of_statusNZ (p_setNZ (s.setReg target _) (s.reg source)), ?_,
    unchanged_setNZ_setReg s target (s.reg source) (s.reg source)⟩
  · rw [reg_setNZ, reg_setReg_same]
  · rw [pc_setNZ, pc_setReg]

/-! ## Push (R290) -/

/-- After a push the cell at the old SP reads as the byte pushed, every other cell as before. -/
theorem read_push {s : State} (hwf : s.mem.wf) (v : Byte) (addr : Nat) :
    (s.push v).mem.read addr = if addr = s.sp.toNat then v else s.mem.read addr := by
  rw [mem_push, toNat_zext16, Memory.read_write hwf]

/-- A push leaves alone all but SP and the cell at the old SP. -/
theorem unchanged_push {s : State} (hwf : s.mem.wf) (v : Byte) : Unchanged s (s.push v) [.sp] [] [s.sp.toNat] where
  regs := reg_congr_but_sp rfl rfl rfl
  flags _ _ := rfl
  cells addr haddr := (read_push hwf v addr).trans (if_neg (List.ne_of_not_mem_cons haddr))
  run := rfl
  fault := rfl
  refused := rfl
  out := rfl
  params := rfl

/-- PHA and PHP push A and P. -/
theorem exec_of_push {i : Instr} {v : Byte} {s : State} (h : i = .pha ∧ v = s.a ∨ i = .php ∧ v = s.p) :
    exec i s = .next (s.push v) := by
  obtain ⟨rfl, rfl⟩ | ⟨rfl, rfl⟩ := h
  · exact exec_eq_run .pha s
  · exact exec_eq_run .php s

/-- Settles O47: both instructions are one push. -/
theorem pushesStoreThenDecrementSp : Obligations.PushesStoreThenDecrementSp := by
  intro i v s hwf hi
  exact ⟨_, exec_of_push hi, (read_push hwf v s.sp.toNat).trans (if_pos rfl), toNat_decByte s.sp, rfl,
    unchanged_push hwf v⟩

/-! ## Pull (R290) -/

/-- A pull returns the byte at SP + 1, modulo 256. -/
theorem top_eq (s : State) : s.top = s.mem.read ((s.sp.toNat + 1) % 256) := by
  rw [State.top, State.byteAt, toNat_zext16, toNat_incByte]

/-- Settles O48: PLA and PLP are one pull, which reads memory and writes none of it. -/
theorem pullsIncrementSpThenRead : Obligations.PullsIncrementSpThenRead := by
  intro s slot
  have htop : s.top = s.mem.read slot := top_eq s
  have hsp : (incByte s.sp).toNat = slot := toNat_incByte s.sp
  rw [← htop]
  refine ⟨⟨_, exec_eq_run .pla s, rfl, hsp, zeroNegative_of_statusNZ rfl, rfl, ?_⟩,
    ⟨_, exec_eq_run .plp s, rfl, hsp, rfl, ?_⟩⟩
  · exact Operation.unchanged_of_run (op := .pla) rfl (fun _ hg => hg) rfl rfl rfl
  · exact Operation.unchanged_of_run (op := .plp) rfl (fun g _ => by cases g <;> decide) rfl rfl rfl

/-! ## A pull takes back what a push put (R294, R335) -/

/-- The byte a push put is the byte the next pull returns. -/
theorem top_push {s : State} (hwf : s.mem.wf) (v : Byte) : (s.push v).top = v := by
  rw [State.top, sp_push, incByte_decByte, State.byteAt, toNat_zext16, read_push hwf, if_pos rfl]

/-- Once the pushed byte is pulled, the next pull returns what it would have returned before the push. -/
theorem top_popped_push {s : State} (hwf : s.mem.wf) (v : Byte) : (s.push v).popped.top = s.top := by
  have hne : (s.sp.toNat + 1) % 256 ≠ s.sp.toNat := by omega
  rw [top_eq, sp_popped, sp_push, incByte_decByte, mem_popped, read_push hwf, if_neg hne, ← top_eq]

/-- Settles O55: PLP pulls the one byte PHP pushed, RTS the two bytes of JSR in the opposite order, one less than PC. -/
theorem pullUndoesPush : Obligations.PullUndoesPush := by
  intro s hwf
  refine ⟨fun t p ht => ?_, fun t target ht => ?_⟩
  · cases ht
    exact ⟨_, exec_eq_run .plp _, top_push hwf s.p, incByte_decByte s.sp⟩
  · cases ht
    have hwf' := Memory.wf_push hwf (hiByte (decWord s.pc))
    have hlo := top_push hwf' (loByte (decWord s.pc))
    have hhi := (top_popped_push hwf' (loByte (decWord s.pc))).trans (top_push hwf (hiByte (decWord s.pc)))
    refine ⟨_, exec_eq_run .rts _, ?_, ?_, rfl⟩
    · calc incWord (wordOf _ _)
        _ = incWord (wordOf (loByte (decWord s.pc)) (hiByte (decWord s.pc))) :=
          congrArg incWord (congrArg₂ wordOf hlo hhi)
        _ = s.pc := by rw [wordOf_lo_hi, incWord_decWord]
    · calc incByte (incByte (decByte (decByte s.sp)))
        _ = s.sp := by rw [incByte_decByte, incByte_decByte]

/-! ## The flag instructions (R295) -/

/-- The table of flag instructions gives each one the flag and the value of its operation. -/
theorem operationOf_of_flagForm {i : Instr} {f : Flag} {v : Bool} (h : flagForm i = some (f, v)) :
    operationOf i = .flag f v := by
  cases i <;> cases h <;> rfl

/-- A flag instruction writes its flag. -/
theorem exec_of_flagForm {i : Instr} {f : Flag} {v : Bool} (h : flagForm i = some (f, v)) (s : State) :
    exec i s = .next (s.setFlag f v) := by
  rw [exec_eq_run, operationOf_of_flagForm h, Operation.run]

/-- Settles O49: a flag write touches P alone, and there its own flag alone. -/
theorem flagInstructionsWriteOneFlag : Obligations.FlagInstructionsWriteOneFlag := by
  intro i f v s hi
  exact ⟨_, exec_of_flagForm hi s, (getFlag_setFlag s.p f f v).trans (if_pos rfl), rfl,
    Operation.unchanged_of_run (op := .flag f v) rfl (fun _ hg => hg) rfl rfl rfl⟩

/-! ## BRK and NOP (R305, R308) -/

/-- Settles O50: neither operation reads anything, and BRK writes RUN alone. -/
theorem brkHaltsAndNopDoesNothing : Obligations.BrkHaltsAndNopDoesNothing :=
  fun s => ⟨exec_eq_run .brk s, exec_eq_run .nop s⟩

end Sys2Proof.Machine
end

section
/-! PROOFS. The family of the unlisted instructions (spec/46_unlisted.md): each read-modify-write as a new value and a new P,
computed once for all its operands, and the subroutine instructions over the slots of the stack. -/

namespace Sys2Proof.Machine

/-- An instruction does what its operation does. -/
theorem exec_of_operationOf {i : Instr} {op : Operation} (h : operationOf i = op) (s : State) : exec i s = op.run s := by
  rw [exec_eq_run, h]

/-! ## What a read-modify-write of memory changes (R172, R321) -/

/-- A byte of a canonical memory and P written: the cell and the flags that differ apart, all is left alone. -/
theorem unchanged_write_p {s : State} (hwf : s.mem.wf) (a : Nat) (v p : Byte) {flags : List Flag}
    (hflags : ∀ g ∉ flags, getFlag p g = getFlag s.p g) :
    Unchanged s { s with mem := s.mem.write a v, p := p } [] flags [a] where
  regs q _ := reg_congr rfl rfl rfl rfl q
  flags := hflags
  cells := (unchanged_write hwf a v).cells
  run := rfl
  fault := rfl
  refused := rfl
  out := rfl
  params := rfl

/-! ## Shifts and rotates (R321 to R325) -/

/-- The model's computation of each shift and rotate. -/
def Shift.op : Shift → Byte → Byte → Byte × Byte
  | .asl => aslOp
  | .lsr => lsrOp
  | .rol => rolOp
  | .ror => rorOp

/-- The table of shifts and rotates gives each one the computation and the operand of its operation. -/
theorem operationOf_of_shiftForm {i : Instr} {k : Shift} {o : RmwOperand} (h : shiftForm i = some (k, o)) :
    operationOf i = .modify k.op o := by
  cases i <;> cases h <;> rfl

theorem carryIn_le_one (p : Byte) : carryIn p ≤ 1 := Bool.toNat_le _

/-- The new value of a shift or rotate as a number: on the right nothing is lost to the modulus. -/
theorem Shift.toNat_op (k : Shift) (p v : Byte) : (k.op p v).1.toNat = k.value v.toNat (carryIn p) := by
  have hv : v.toNat < 256 := v.isLt
  have hc := carryIn_le_one p
  cases k with
  | asl | rol => exact BitVec.toNat_ofNat ..
  | lsr | ror => exact (BitVec.toNat_ofNat ..).trans (Nat.mod_eq_of_lt (by omega))

/-- The new P of a shift or rotate: C the bit shifted out, then `SetNZ` of the new value. -/
theorem Shift.op_status (k : Shift) (p v : Byte) :
    (k.op p v).2 = statusNZ (setFlag p .c (v.getLsbD k.carryBit)) (k.op p v).1 := by
  cases k <;> rfl

theorem Shift.carry_op (k : Shift) (p v : Byte) : getFlag (k.op p v).2 .c = v.getLsbD k.carryBit := by
  rw [k.op_status, getFlag_statusNZ_other _ _ (by decide), getFlag_setFlag, if_pos rfl]

/-- A shift or rotate writes C, Z and N at most. -/
theorem Shift.mem_of_op_writes {k : Shift} {p v : Byte} {g : Flag} (h : getFlag (k.op p v).2 g ≠ getFlag p g) :
    g ∈ [.c, .z, .n] :=
  mem_of_shift_writes (k.op_status p v ▸ h)

/-- Settles O51: value and P are those of `Shift.op`, written to A or to the one cell. -/
theorem shiftsReplaceTheirOperand : Obligations.ShiftsReplaceTheirOperand := by
  refine fun i k s => ⟨fun hi => ?_, fun m w hwf hi hw => ?_⟩
  · have hexec := exec_of_operationOf (operationOf_of_shiftForm hi) s
    exact ⟨_, hexec, k.toNat_op s.p s.a, k.carry_op s.p s.a, zeroNegative_of_statusNZ (k.op_status s.p s.a), rfl,
      Operation.unchanged_of_run (op := .modify k.op .accumulator) rfl (fun _ ⟨_, _, hg⟩ => k.mem_of_op_writes hg)
        rfl rfl rfl⟩
  · obtain ⟨hexec, -⟩ := exec_of_attempt (operationOf_of_shiftForm hi) (readModifyWrite_memory k.op m s) hw
    have hread := Memory.read_write_same hwf w.toNat (k.op s.p (s.byteAt w)).1
    refine ⟨_, hexec, ?_, k.carry_op s.p (s.byteAt w), ?_, rfl, unchanged_write_p hwf w.toNat _ _ fun g hg => ?_⟩
    · rw [hread]
      exact k.toNat_op s.p (s.byteAt w)
    · rw [hread]
      exact zeroNegative_of_statusNZ (k.op_status s.p (s.byteAt w))
    · exact Classical.not_not.mp fun hne => hg (k.mem_of_op_writes hne)

/-! ## Increments and decrements (R326 to R332) -/

/-- The function adds `d` modulo 256. -/
def StepsBy (d : Int) (f : Byte → Byte) : Prop := ∀ b, ((f b).toNat : Int) = (b.toNat + d) % 256

theorem incByte_stepsBy : StepsBy 1 incByte := fun b => congrArg Nat.cast (toNat_incByte b)

theorem decByte_stepsBy : StepsBy (-1) decByte := toNat_decByte

/-- The computation of a memory increment or decrement from that of the byte: the new value, and `SetNZ` of it. -/
def withStatusNZ (f : Byte → Byte) (p v : Byte) : Byte × Byte := (f v, statusNZ p (f v))

/-- The table of memory increments and decrements: the operation of each steps its cell by the table's number. -/
theorem operationOf_of_incDecForm {i : Instr} {d : Int} {m : MemOperand} (h : incDecForm i = some (d, m)) :
    ∃ f, StepsBy d f ∧ operationOf i = .modify (withStatusNZ f) (.memory m) := by
  cases i <;> cases h
  case incZp | incZpX | incAbs | incAbsX => exact ⟨incByte, incByte_stepsBy, rfl⟩
  case decZp | decZpX | decAbs | decAbsX => exact ⟨decByte, decByte_stepsBy, rfl⟩

/-- Settles O52: the cell is stepped and `SetNZ` taken of what it now holds. -/
theorem memoryIncrementsAndDecrements : Obligations.MemoryIncrementsAndDecrements := by
  intro i d m s w hwf hi hw
  obtain ⟨f, hf, hop⟩ := operationOf_of_incDecForm hi
  obtain ⟨hexec, -⟩ := exec_of_attempt hop (readModifyWrite_memory (withStatusNZ f) m s) hw
  have hread := Memory.read_write_same hwf w.toNat (f (s.byteAt w))
  refine ⟨_, hexec, ?_, ?_, rfl,
    unchanged_write_p hwf w.toNat _ _ fun _ hg => getFlag_statusNZ_other s.p (f (s.byteAt w)) hg⟩
  · exact (congrArg (fun b : Byte => (b.toNat : Int)) hread).trans (hf (s.byteAt w))
  · exact zeroNegative_of_statusNZ (congrArg (statusNZ s.p) hread.symm)

/-- The table of register increments and decrements: the operation of each steps its register by the table's number. -/
theorem operationOf_of_regIncDecForm {i : Instr} {d : Int} {r : Reg} (h : regIncDecForm i = some (d, r)) :
    ∃ f, StepsBy d f ∧ operationOf i = .register f r := by
  cases i <;> cases h
  case inx | iny => exact ⟨incByte, incByte_stepsBy, rfl⟩
  case dex | dey => exact ⟨decByte, decByte_stepsBy, rfl⟩

/-- Settles O53: the register is stepped and `SetNZ` taken of what it now holds. -/
theorem registerIncrementsAndDecrements : Obligations.RegisterIncrementsAndDecrements := by
  intro i d r s hi
  obtain ⟨f, hf, hop⟩ := operationOf_of_regIncDecForm hi
  have hreg : ((s.setReg r (f (s.reg r))).setNZ (f (s.reg r))).reg r = f (s.reg r) := by
    rw [reg_setNZ, reg_setReg_same]
  refine ⟨_, exec_of_operationOf hop s, ?_, ?_, ?_, unchanged_setNZ_setReg s r (f (s.reg r)) (f (s.reg r))⟩
  · rw [hreg]
    exact hf (s.reg r)
  · rw [hreg]
    exact zeroNegative_of_statusNZ (p_setNZ (s.setReg r _) (f (s.reg r)))
  · rw [pc_setNZ, pc_setReg]

/-! ## The slots of the stack (R290) -/

/-- The stack's cell `k` above SP, modulo 256. -/
def State.slot (s : State) (k : Nat) : Nat := (s.sp.toNat + k) % 256

theorem toNat_sp_eq_slot (s : State) : s.sp.toNat = s.slot 0 := (Nat.mod_eq_of_lt s.sp.isLt).symm

theorem slot_popped (s : State) (k : Nat) : s.popped.slot k = s.slot (k + 1) := by
  rw [State.slot, sp_popped, toNat_incByte, State.slot]
  omega

theorem slot_push (s : State) (v : Byte) (k : Nat) : (s.push v).slot k = s.slot (k + 255) := by
  have hsp := toNat_decByte s.sp
  rw [State.slot, sp_push, State.slot]
  omega

/-! ## Pulls after each other (R335, R336) -/

theorem top_eq_slot (s : State) : s.top = s.mem.read (s.slot 1) := top_eq s

theorem top_popped (s : State) : s.popped.top = s.mem.read (s.slot 2) := by
  rw [top_eq_slot, slot_popped, mem_popped]

theorem top_popped_popped (s : State) : s.popped.popped.top = s.mem.read (s.slot 3) := by
  rw [top_popped, slot_popped, mem_popped]

theorem toNat_sp_popped_popped (s : State) : s.popped.popped.sp.toNat = s.slot 2 := by
  rw [toNat_sp_eq_slot, slot_popped, slot_popped]

theorem toNat_sp_popped_popped_popped (s : State) : s.popped.popped.popped.sp.toNat = s.slot 3 := by
  rw [toNat_sp_popped_popped, slot_popped]

/-! ## Two pushes (R334) -/

/-- After two changes of the same registers and flags, the cells of either may differ; both left the rest alone. -/
theorem Unchanged.trans {s t u : State} {regs : List Reg} {flags : List Flag} {cells cells' : List Nat}
    (h : Unchanged s t regs flags cells) (h' : Unchanged t u regs flags cells') :
    Unchanged s u regs flags (cells ++ cells') where
  regs q hq := (h'.regs q hq).trans (h.regs q hq)
  flags f hf := (h'.flags f hf).trans (h.flags f hf)
  cells addr haddr := by
    rw [List.mem_append, not_or] at haddr
    obtain ⟨hc, hc'⟩ := haddr
    exact (h'.cells addr hc').trans (h.cells addr hc)
  run := h'.run.trans h.run
  fault := h'.fault.trans h.fault
  refused := h'.refused.trans h.refused
  out := h'.out.trans h.out
  params := h'.params.trans h.params

section
variable {s : State} (hwf : s.mem.wf) (v w : Byte)
include hwf

theorem unchanged_push_push : Unchanged s ((s.push v).push w) [.sp] [] [s.sp.toNat, s.slot 255] := by
  have h := (unchanged_push hwf v).trans (unchanged_push (Memory.wf_push hwf v) w)
  rwa [toNat_sp_eq_slot (s.push v), slot_push] at h

/-- The second byte pushed lies in the slot below SP. -/
theorem read_push_push_second : ((s.push v).push w).mem.read (s.slot 255) = w := by
  rw [read_push (Memory.wf_push hwf v), toNat_sp_eq_slot (s.push v), slot_push, if_pos rfl]

/-- The first byte pushed stays at the old SP: the second went to another cell. -/
theorem read_push_push_first : ((s.push v).push w).mem.read s.sp.toNat = v := by
  have hne : s.sp.toNat ≠ s.slot 255 := by
    rw [State.slot]
    omega
  rw [read_push (Memory.wf_push hwf v), toNat_sp_eq_slot (s.push v), slot_push, if_neg hne, read_push hwf, if_pos rfl]

end

/-- A word pushed high byte first lies in its two slots, big end at the old SP. -/
theorem read_push_word {s : State} (hwf : s.mem.wf) (back : Word) :
    (((s.push (hiByte back)).push (loByte back)).mem.read s.sp.toNat).toNat * 256 +
      (((s.push (hiByte back)).push (loByte back)).mem.read (s.slot 255)).toNat = back.toNat := by
  rw [read_push_push_first hwf, read_push_push_second hwf, ← toNat_wordOf, wordOf_lo_hi]

/-- Two pushes leave SP two slots lower, modulo 256. -/
theorem toNat_sp_push_push (s : State) (v w : Byte) : ((s.push v).push w).sp.toNat = s.slot 254 := by
  rw [toNat_sp_eq_slot, slot_push, slot_push, State.slot, State.slot]
  omega

/-! ## Subroutine call and returns (R334 to R336) -/

/-- Settles O54: two pushes, two pulls and three pulls, each slot counted from the SP before. -/
theorem subroutineCallAndReturns : Obligations.SubroutineCallAndReturns := by
  refine fun s => ⟨fun hwf target => ?jsr, ?rts, ?rti⟩
  case jsr =>
    have hframe := unchanged_push_push hwf (hiByte (decWord s.pc)) (loByte (decWord s.pc))
    have hsp := toNat_sp_push_push s (hiByte (decWord s.pc)) (loByte (decWord s.pc))
    refine ⟨_, exec_eq_run (.jsr target) s, rfl, ?_, hsp, { hframe with }⟩
    exact (congrArg Nat.cast (read_push_word hwf (decWord s.pc))).trans (toNat_decWord s.pc)
  case rts =>
    have hpc : (incWord (wordOf s.top s.popped.top)).toNat =
        ((s.mem.read (s.slot 2)).toNat * 256 + (s.mem.read (s.slot 1)).toNat + 1) % 65536 := by
      rw [toNat_incWord, toNat_wordOf, top_popped, top_eq_slot]
    exact ⟨_, exec_eq_run .rts s, hpc, toNat_sp_popped_popped s,
      Operation.unchanged_of_run (op := .rts) rfl (fun _ hg => hg) rfl rfl rfl⟩
  case rti =>
    have hpc : (wordOf s.popped.top s.popped.popped.top).toNat =
        (s.mem.read (s.slot 3)).toNat * 256 + (s.mem.read (s.slot 2)).toNat := by
      rw [toNat_wordOf, top_popped_popped, top_popped]
    exact ⟨_, exec_eq_run .rti s, top_eq_slot s, hpc, toNat_sp_popped_popped_popped s,
      Operation.unchanged_of_run (op := .rti) rfl (fun g _ => by cases g <;> decide) rfl rfl rfl⟩

end Sys2Proof.Machine
end

section
/-! PROOFS. The exception family (spec/60_exceptions.md): a faulted state is terminal, a resolver's fault is all its instruction
does, and under wrap16 there is none. -/

namespace Sys2Proof.Machine

/-! ## A faulted state is terminal (R403, R138): O15 -/

/-- No step is enabled in a faulted state, refused or not (log 17). -/
theorem step_of_fault {s : State} {f : Fault} (hf : s.fault = some f) : step s = .fault f := by
  rw [step, hf]

theorem runs_of_fault {s : State} {f : Fault} (hf : s.fault = some f) : s.runs = false :=
  (runs_eq_false_iff s).mpr (.inr (.inl (by simp [hf])))

theorem ended_of_fault {s : State} {f : Fault} (hf : s.fault = some f) : s.ended = false := by
  simp [State.ended, State.enabled, hf]

/-- Settles O15: no step and no run starts in a faulted state, and FAULT is a mark only a reset touches. -/
theorem faultedStateIsTerminal : Obligations.FaultedStateIsTerminal := fun _ _ hf =>
  ⟨step_of_fault hf, batchRun_of_not_runs (runs_of_fault hf), ended_of_fault hf,
    fun _ _ ht hreset => (hostAct_marks ht hreset).left.trans hf, fun _ _ _ => rfl⟩

/-! ## Under wrap16 nothing faults (R164, R402): O22 -/

/-- With ADDR_OVERFLOW = wrap16 an instruction leaves FAULT alone: a fault needs the other value (`faultsArePrecise`). -/
theorem fault_of_exec_wrap16 {i : Instr} {s t : State} (hovf : s.params.addrOverflow = .wrap16)
    (h : exec i s = .next t) : t.fault = s.fault := by
  by_contra hne
  obtain ⟨addr, -, -, hfault, -⟩ := faultsArePrecise i s t h hne
  exact nomatch hovf.symm.trans hfault

/-- Settles O22: a step starts with FAULT clear, which neither a refusal nor, under wrap16, an instruction sets. -/
theorem nothingFaultsUnderWrap16 : Obligations.NothingFaultsUnderWrap16 := by
  intro s t hovf h
  obtain ⟨hf, -, ⟨-, rfl⟩ | ⟨-, u, hu, rfl⟩⟩ := step_next_cases h
  · rw [fault_refuse, hf]
  · have hkeeps := fault_of_exec_wrap16 (s := s.enter s.fetch) hovf hu
    rw [fault_leave, hkeeps, fault_enter, hf]

/-! ## A resolver's fault is all its instruction does (R139, R402): O36 -/

/-- The memory operand an operation resolves, if it has one. -/
def Operation.memoryOperand : Operation → Option MemOperand
  | .load _ (.memory m) | .store _ m | .adc (.memory m) | .sbc (.memory m) | .compare _ (.memory m)
  | .bitwise _ (.memory m) | .bit (.memory m) | .jump m | .modify _ (.memory m) => some m
  | _ => none

/-- The table of memory operands gives each instruction that of its operation. -/
theorem memoryOperand_operationOf {i : Instr} {m : MemOperand} (h : memOperand i = some m) :
    (operationOf i).memoryOperand = some m := by
  cases i <;> cases h <;> rfl

/-- An operation with a memory operand resolves it before anything else, and goes on from the address (R139). -/
theorem Operation.run_eq_attempt {op : Operation} {m : MemOperand} (h : op.memoryOperand = some m) (s : State) :
    ∃ k : Word → State, op.run s = attempt s (effectiveAddress m s) k := by
  have hread (k : Byte → State) :
      attempt s (readOperand (.memory m) s) k = attempt s (effectiveAddress m s) fun w => k (s.byteAt w) := by
    rw [readOperand_memory, attempt_map]
  cases op
  case load _ o | adc o | sbc o | compare _ o | bitwise _ o | bit o =>
    cases o <;> cases h
    exact ⟨_, hread _⟩
  case store r _ =>
    cases h
    exact ⟨_, store_eq r m s⟩
  case jump =>
    cases h
    exact ⟨_, rfl⟩
  case modify f o =>
    cases o <;> cases h
    exact ⟨_, readModifyWrite_memory f m s⟩
  all_goals cases h

/-- Settles O36: the operand is resolved first, so its fault is raised on the state after the fetch. -/
theorem addressOverflowTakesTheFault : Obligations.AddressOverflowTakesTheFault := by
  intro i m s f hi hm
  obtain ⟨k, hrun⟩ := Operation.run_eq_attempt (memoryOperand_operationOf hi) s
  rw [exec_eq_run, hrun, hm, attempt_error, State.raise]

end Sys2Proof.Machine
end

section
/-! PROOFS. The reset family (spec/70_reset_and_hazards.md): the parameters are all a reset keeps of the state before it. -/

namespace Sys2Proof.Machine

/-! ## The reset (R441, R442): O56 -/

@[simp] theorem params_hostReset (a x y : Byte) (s : State) : (hostReset a x y s).params = s.params := rfl

/-- A reset reads nothing of the state before it but the parameters (R442). -/
theorem hostReset_eq_of_params {s t : State} (h : s.params = t.params) (a x y : Byte) :
    hostReset a x y s = hostReset a x y t := by
  rw [hostReset, hostReset, h]

/-- A reset undoes the one before it, whatever INIT_AXY that one had (R442). -/
theorem hostReset_hostReset (a x y a' x' y' : Byte) (s : State) :
    hostReset a x y (hostReset a' x' y' s) = hostReset a x y s :=
  hostReset_eq_of_params (params_hostReset a' x' y' s) a x y

/-- After a reset every cell reads as zero: none is listed (R441). -/
theorem read_mem_hostReset (a x y : Byte) (s : State) (addr : Nat) : (hostReset a x y s).mem.read addr = 0 := rfl

/-- Settles O56: the registers and marks are those of `State.resetWith`, and the parameters, all that a second reset reads, are
what the first one keeps. -/
theorem resetIsTotalAndIdempotent : Obligations.ResetIsTotalAndIdempotent := by
  intro a x y s t
  have hparams : t.params = s.params := params_hostReset a x y s
  have hagain : ∀ a' x' y', hostReset a x y (hostReset a' x' y' s) = t := fun a' x' y' =>
    hostReset_hostReset a x y a' x' y' s
  exact ⟨rfl, rfl, rfl, read_mem_hostReset a x y s, rfl, rfl, rfl, rfl, rfl, rfl, rfl, hparams, hagain a x y, hagain⟩

end Sys2Proof.Machine
end
